-- ==== Sys2Proof/Word.lean ====
section
/-! DEFINITION. The word types of the block: bytes, the 15-bit length field, the 32-bit header word of
the spec's notation (spec/00_scope.md R10, spec/30_encoding.md R51 and R55). -/

namespace Sys2Proof

/-- A byte, bits numbered 7 down to 0 (R10, R38). -/
abbrev Byte := BitVec 8

/-- The value of the 15-bit length field (R51). -/
abbrev Len := BitVec 15

/-- The header word `hdr32` of R55: notation only, the byte transmitted first in bits 31..24. -/
abbrev Hdr32 := BitVec 32

end Sys2Proof
end

