-- ==== Sys2Proof/Syntax.lean ====
section
/-! DEFINITION. The operations and header classes of the block: one constructor of `Instr` for each row
of spec/opcode_table.json (spec/30_encoding.md R56 and R62). -/

namespace Sys2Proof

/-- A sub-stream, which is also the number of its packet ports: 0 primary, 1 secondary (R14, R52). -/
inductive SubStream where
  | primary
  | secondary
  deriving DecidableEq, Repr

/-- A decoded header: its tag and its payload length (R51, R52). -/
structure Header where
  tag : SubStream
  len : Len
  deriving DecidableEq, Repr

/-- The operations of R62 and the header classes of R56. -/
inductive Instr where
  /-- HDR_PRIMARY (R56): a window that decodes to a header with tag 0. -/
  | hdrPrimary (len : Len)
  /-- HDR_SECONDARY (R56): a window that decodes to a header with tag 1. -/
  | hdrSecondary (len : Len)
  /-- NAF_MAGIC (R56): a window whose first byte is not `MAGIC`. -/
  | nafMagic (b0 b1 b2 b3 : Byte)
  /-- NAF_CHECKSUM (R56): a window that begins with `MAGIC` and fails the checksum. -/
  | nafChecksum (b1 b2 b3 : Byte)
  /-- CHECKSUM (R63). -/
  | checksum (b0 b1 b2 : Byte)
  /-- ENCODE (R64). -/
  | encode (tag : SubStream) (n : Nat)
  /-- DECODE (R65). -/
  | decode (b0 b1 b2 b3 : Byte)
  /-- RX_CHUNK (R70). -/
  | rxChunk (c : List Byte)
  /-- PARSE_IDLE (R71). -/
  | parseIdle
  /-- PARSE_SLIDE (R72). -/
  | parseSlide
  /-- PARSE_LATCH (R73). -/
  | parseLatch
  /-- PARSE_TOO_LARGE (R75). -/
  | parseTooLarge
  /-- PARSE_WAIT (R77). -/
  | parseWait
  /-- TICK (R79). -/
  | tick
  /-- PARSE_DISPATCH (R86). -/
  | parseDispatch
  /-- RAW_FORWARD (R87). -/
  | rawForward (c : List Byte)
  /-- DG_DROP_OVERSIZE (R94). -/
  | dgDropOversize (k : SubStream) (d : List Byte)
  /-- DG_DROP_INVALID (R95). -/
  | dgDropInvalid (k : SubStream) (d : List Byte)
  /-- DG_FRAMED (R96). -/
  | dgFramed (k : SubStream) (d : List Byte)
  /-- DG_RAW (R97), of port 0 only. -/
  | dgRaw (d : List Byte)
  /-- ACQUIRE (R100). -/
  | acquire (k : SubStream)
  /-- TX_BYTE (R101). -/
  | txByte
  /-- LINK_FAULT (R115). -/
  | linkFault
  /-- RESET (R125). -/
  | reset
  deriving DecidableEq, Repr

end Sys2Proof
end

