-- ==== Sys2Proof/Decode.lean ====
section
/-! DEFINITION. The one binary format of the block, the 4-byte frame header: its fields
(spec/30_encoding.md R50 to R53), the codec's DECODE (spec/40_header_codec.md R65), the class of every
window (R56), the encoder of a class, and the opcode table's word (R55). The 20 operations have no bit
pattern (R62): the decoder answers only header classes, and `encode` has no bytes for an operation. -/

namespace Sys2Proof

/-- `MAGIC` (R7, R50). -/
abbrev magic : Byte := 0x53

/-- The checksum of three bytes (R63): their exclusive or. -/
def checksum (b0 b1 b2 : Byte) : Byte := b0 ^^^ b1 ^^^ b2

/-- The tag of byte 1: its bit 7 (R52). -/
def tagOf (b1 : Byte) : SubStream := if b1.getLsbD 7 then .secondary else .primary

/-- The length of bytes 1 and 2, big-endian: `(b1 & 0x7F) << 8 | b2` (R39, R51). -/
def lenOf (b1 b2 : Byte) : Len := ((b1 &&& 0x7F).setWidth 15 <<< 8) ||| b2.setWidth 15

/-- The tag as a number (R52). -/
def tagBit : SubStream → Byte
  | .primary => 0
  | .secondary => 1

/-- Header byte 1: `(tag << 7) | n[14:8]` (R50, R64). -/
def headerByte1 (t : SubStream) (n : Len) : Byte := (tagBit t <<< 7) ||| (n >>> 8).setWidth 8

/-- Header byte 2: length bits 7..0 (R50). -/
def headerByte2 (n : Len) : Byte := n.setWidth 8

/-- The 4 header bytes of a tag and a length, `HDR(t, n)` of R60 (R50). -/
def headerBytes (t : SubStream) (n : Len) : List Byte :=
  [magic, headerByte1 t n, headerByte2 n, checksum magic (headerByte1 t n) (headerByte2 n)]

/-- DECODE as R65 writes it. `none` is NotAFrame. -/
def decodeHeader (b0 b1 b2 b3 : Byte) : Option Header :=
  if b0 ≠ magic then none
  else if b3 ≠ checksum b0 b1 b2 then none
  else some { tag := tagOf b1, len := lenOf b1 b2 }

/-- The class of a window, tested in the order of R56. -/
def decodeWindow (b0 b1 b2 b3 : Byte) : Instr :=
  if b0 ≠ magic then .nafMagic b0 b1 b2 b3
  else if b3 ≠ checksum b0 b1 b2 then .nafChecksum b1 b2 b3
  else
    match tagOf b1 with
    | .primary => .hdrPrimary (lenOf b1 b2)
    | .secondary => .hdrSecondary (lenOf b1 b2)

/-- Why bytes are no window. -/
inductive DecodeError where
  /-- Fewer than 4 bytes: there is no window to classify (R56, R58). Safe: nothing is decoded. -/
  | shortWindow
  deriving DecidableEq, Repr

/-- Reads one header window from the head of a byte sequence and answers its class and the bytes after
it. Total: every 4-byte window has a class (R56), and fewer than 4 bytes are rejected by name. -/
def decode : List Byte → Except DecodeError (Instr × List Byte)
  | b0 :: b1 :: b2 :: b3 :: rest => .ok (decodeWindow b0 b1 b2 b3, rest)
  | _ => .error .shortWindow

/-- The bytes of a header class (R50, R56); an operation has no bit pattern (R62). -/
def encode : Instr → Option (List Byte)
  | .hdrPrimary len => some (headerBytes .primary len)
  | .hdrSecondary len => some (headerBytes .secondary len)
  | .nafMagic b0 b1 b2 b3 => some [b0, b1, b2, b3]
  | .nafChecksum b1 b2 b3 => some [magic, b1, b2, b3]
  | .checksum _ _ _ => none
  | .encode _ _ => none
  | .decode _ _ _ _ => none
  | .rxChunk _ => none
  | .parseIdle => none
  | .parseSlide => none
  | .parseLatch => none
  | .parseTooLarge => none
  | .parseWait => none
  | .tick => none
  | .parseDispatch => none
  | .rawForward _ => none
  | .dgDropOversize _ _ => none
  | .dgDropInvalid _ _ => none
  | .dgFramed _ _ => none
  | .dgRaw _ => none
  | .acquire _ => none
  | .txByte => none
  | .linkFault => none
  | .reset => none

/-- The header word of a window: `b0 << 24 | b1 << 16 | b2 << 8 | b3` (R55). -/
def hdr32 (b0 b1 b2 b3 : Byte) : Hdr32 :=
  (b0.setWidth 32 <<< 24) ||| (b1.setWidth 32 <<< 16) ||| (b2.setWidth 32 <<< 8) ||| b3.setWidth 32

/-- The four bytes of a header word in the order they are transmitted, bits 31..24 first (R55). -/
def windowOfWord (w : Nat) : List Byte :=
  [BitVec.ofNat 8 (w / 2 ^ 24), BitVec.ofNat 8 (w / 2 ^ 16), BitVec.ofNat 8 (w / 2 ^ 8), BitVec.ofNat 8 w]

/-- The instruction of a row's word in spec/opcode_table.json. The table numbers a header row's bits as
`hdr32` (R55), one 32-bit word whose high byte is transmitted first (log 8); an operation's row has no
bits (R62), so any other width is no instruction. -/
def decodeTableWord (nbits w : Nat) : Option Instr :=
  if nbits = 32 then
    match decode (windowOfWord w) with
    | .ok (i, _) => some i
    | .error _ => none
  else none

end Sys2Proof
end

