-- ==== Sys2Proof/Config.lean ====
section
/-! DEFINITION. The implementation parameters that spec/00_scope.md R7 marks OPEN. `ARB_POLICY` is no
value here: the model admits either grant (R104), named by the agenda of the state. -/

namespace Sys2Proof

/-- The OPEN parameters of R7. Their bounds (R8) are `Params.Valid`. -/
structure Params where
  /-- `MAX_FRAME`: largest total frame in bytes. -/
  maxFrame : Nat
  /-- `BUF_CAP`: capacity of the inbound scan buffer in bytes. -/
  bufCap : Nat
  /-- `TW`: width in bits of the since-frame timer. -/
  tw : Nat
  /-- `PASSTHROUGH_TIMEOUT` (T): the value held on `cfg_timeout_i`, in ticks (R128). -/
  timeout : Nat
  deriving DecidableEq, Repr

/-- The test configuration of spec/95_test_vectors.md. DESIGN CHOICE (log 1), unsafe to lean on: R7
leaves the four values open and calls this one an example. -/
def Params.testConfiguration : Params :=
  { maxFrame := 840, bufCap := 2520, tw := 16, timeout := 100 }

end Sys2Proof
end

