-- ==== Sys2Proof/Machine/State.lean ====
section
/-! DEFINITION. The state of the block (spec/10_state.md R15 to R23), its observations (R26), the
model's own fields, the state after reset (R33), and the reasons a step can stop. -/

namespace Sys2Proof.Machine

/-- The link state, `0 = Framed`, `1 = Passthrough` (R18). -/
inductive LinkState where
  | framed
  | passthrough
  deriving DecidableEq, Repr

/-- The named error codes of R111. -/
inductive ErrorCode where
  | frameTooLarge
  | invalidLength
  | oversizedDatagram
  | linkIoError
  /-- Reserved: the block never emits it (R111, R124). -/
  | socketIoError
  deriving DecidableEq, Repr

/-- An error event: its code and its port, `none` where no port applies (R111, R112). -/
structure ErrorEvent where
  code : ErrorCode
  port : Option SubStream
  deriving DecidableEq, Repr

/-- What a codec call returns (R63 to R65). -/
inductive CodecResult where
  | checksum (b : Byte)
  | encoded (bytes : List Byte)
  | invalidLength
  | decoded (h : Header)
  | notAFrame
  deriving DecidableEq, Repr

/-- One beat of `ser_rx` (R25). -/
structure SerialBeat where
  data : Byte
  last : Bool
  deriving DecidableEq, Repr

/-- One beat of a packet port: with a byte, or with `empty = 1` and no byte (R25). -/
inductive PacketBeat where
  | byte (b : Byte) (last : Bool)
  | empty (last : Bool)
  deriving DecidableEq, Repr

/-- What one agent or the environment offers to do next: the arguments of the step relation (R34).
An event that stands for a pin being 1 (`tick_i`, `link_fault_i`, `rst`, `ser_tx_ready`) is the
operation of that pin (log 10). -/
inductive Event where
  /-- The inbound parser takes one iteration of its scan loop, the one R78 selects. -/
  | scan
  /-- A named operation. -/
  | operation (i : Instr)
  /-- `RX_CHUNK c` of R60: a chunk arrives, performed by RX_CHUNK or RAW_FORWARD. -/
  | serialIn (c : List Byte)
  /-- One beat on `ser_rx` (R25). -/
  | serialBeat (b : SerialBeat)
  /-- `DG_IN k d` of R60: a datagram arrives, performed by the operation R98 selects. -/
  | datagramIn (k : SubStream) (d : List Byte)
  /-- One beat on `dg_in k` (R25). -/
  | datagramBeat (k : SubStream) (b : PacketBeat)
  /-- `cfg_timeout_i` is driven with `t` while `rst = 0` (R128). -/
  | driveTimeout (t : Nat)
  /-- `rst = 1` with `cfg_timeout_i` driven with `t` (R125, R128). -/
  | resetWith (t : Nat)
  deriving DecidableEq, Repr

/-- The machine: the tuple of R15, the observations of R26, and six fields of the model's own
(`cfg`, `rxPart`, `dgPart0`, `dgPart1`, `ret`, `agenda`). -/
structure State where
  /-- The parameters of R7. The model's own field: R15 calls them no state (log 1). -/
  cfg : Params
  /-- The inbound scan buffer, oldest byte first (R16). -/
  buf : List Byte
  /-- The scan loop is running (R17). -/
  scanReq : Bool
  /-- The latch (R18). -/
  linkState : LinkState
  /-- Ticks since the last recognised header (R19); below `2 ^ TW` in every reachable state (log 11). -/
  sinceFrame : Nat
  /-- `pending[0]` (R20). -/
  pending0 : Option (List Byte)
  /-- `pending[1]` (R20). -/
  pending1 : Option (List Byte)
  /-- The arbiter's owner (R21). -/
  lock : Option SubStream
  /-- The bytes of the owner's sequence not yet written (R22). -/
  wrRem : List Byte
  /-- A fatal link error has stopped the block (R23). -/
  halted : Bool
  /-- `out_hist[0]` (R26). -/
  outHist0 : List (List Byte)
  /-- `out_hist[1]` (R26). -/
  outHist1 : List (List Byte)
  /-- `disp_hist` (R26). -/
  dispHist : List (SubStream × List Byte)
  /-- `ser_hist` (R26). -/
  serHist : List Byte
  /-- `err_hist` (R26). -/
  errHist : List ErrorEvent
  /-- The bytes of the chunk in transfer on `ser_rx`, whose last beat is still to come (R25). The
  model's own field (log 9): no operation reads it. -/
  rxPart : List Byte
  /-- The bytes of the packet in transfer on `dg_in0` (R25). The model's own field (log 9). -/
  dgPart0 : List Byte
  /-- The bytes of the packet in transfer on `dg_in1` (R25). The model's own field (log 9). -/
  dgPart1 : List Byte
  /-- The value of the last codec call. The model's own field (log 5): no operation reads it. -/
  ret : Option CodecResult
  /-- Who moves next: clock cycles, each a list of events (R34, R114). The model's own field (log 2). -/
  agenda : List (List Event)
  deriving DecidableEq, Repr

/-- Why a run has stopped. -/
inductive Fault where
  /-- The block is halted by a link I/O error and no RESET is taken (R116, item 11 of
  93_implementation_defined.md). Raised by every operation but RESET and the codec functions while
  `halted`, and by `step` when no RESET follows in the agenda. Safe: the spec stops here too. -/
  | linkIoError
  deriving DecidableEq, Repr

/-- Why the model gives no next state. -/
inductive Refusal where
  /-- An instruction that has no meaning yet, by its mnemonic; no arm answers it now. Safe. -/
  | notModelled (mnemonic : String)
  /-- The operation's guard is false, so it has no step (R13). Raised by the meaning of every guarded
  operation; `step` lets such an offer lapse (log 3). Safe. -/
  | notEnabled (mnemonic : String)
  /-- The parameters violate R8, which a model shall refuse. Raised by `step`. Safe. -/
  | invalidConfiguration
  /-- `cfg_timeout_i` changes while `rst = 0`, which a model refuses (R128). Raised by `step`. Safe. -/
  | timeoutChanged
  /-- A beat with `empty = 1` and `last = 0` (R25; 93 item 9 refuses it). Raised by `step`. Safe. -/
  | emptyBeatWithoutLast
  deriving DecidableEq, Repr

/-- The machine right after reset at the start of a run (R33), with an empty agenda; the parameters are
the spec's test configuration (DESIGN CHOICE, log 1). -/
def State.reset : State :=
  { cfg := Params.testConfiguration
    buf := []
    scanReq := false
    linkState := .framed
    sinceFrame := 0
    pending0 := none
    pending1 := none
    lock := none
    wrRem := []
    halted := false
    outHist0 := []
    outHist1 := []
    dispHist := []
    serHist := []
    errHist := []
    rxPart := []
    dgPart0 := []
    dgPart1 := []
    ret := none
    agenda := [] }

end Sys2Proof.Machine
end

