-- ==== Sys2Proof/Machine/Flags.lean ====
section
/-! DEFINITION. The conditions the operations' guards are made of. The block has no condition codes
(spec/10_state.md R30); its one-bit state and the tests over it are here, with the parameter bounds of
spec/00_scope.md R8. -/

namespace Sys2Proof

/-- The bounds of R8 with those of R7's table: `4 <= MAX_FRAME <= 32771`, `BUF_CAP >= 3 * MAX_FRAME`,
`TW >= 1`, `T <= 2^TW - 2`. -/
abbrev Params.Valid (p : Params) : Prop :=
  4 ≤ p.maxFrame ∧ p.maxFrame ≤ 4 + 0x7FFF ∧ 3 * p.maxFrame ≤ p.bufCap ∧ 1 ≤ p.tw ∧
    p.timeout + 2 ≤ 2 ^ p.tw

/-- `MAX_PAYLOAD = MAX_FRAME - 4` (R7). -/
abbrev Params.maxPayload (p : Params) : Nat := p.maxFrame - 4

/-- The value a timer of `TW` bits saturates at, `2^TW - 1` (R19, R79). -/
abbrev Params.timerMax (p : Params) : Nat := 2 ^ p.tw - 1

end Sys2Proof

namespace Sys2Proof.Machine

/-- `live and framed and scan_req = 1`: the part every PARSE_* guard shares (R78). -/
abbrev State.Parsing (s : State) : Prop :=
  s.halted = false ∧ s.linkState = .framed ∧ s.scanReq = true

/-- The timeout has expired: strictly greater (R81). -/
abbrev State.TimeoutExpired (s : State) : Prop := s.cfg.timeout < s.sinceFrame

/-- `pending[k]` (R20). -/
def State.pending (s : State) : SubStream → Option (List Byte)
  | .primary => s.pending0
  | .secondary => s.pending1

/-- `out_hist[k]` (R26). -/
def State.outHist (s : State) : SubStream → List (List Byte)
  | .primary => s.outHist0
  | .secondary => s.outHist1

/-- The bytes of the packet in transfer on `dg_in k` (R25; log 9). -/
def State.dgPart (s : State) : SubStream → List Byte
  | .primary => s.dgPart0
  | .secondary => s.dgPart1

/-- `port_free(k)` (R93). -/
abbrev State.PortFree (s : State) (k : SubStream) : Prop :=
  s.halted = false ∧ s.pending k = none ∧ s.lock ≠ some k

/-- Datagrams of port `k` are framed: the secondary port always, the primary in Framed (R96, R106). -/
abbrev State.Frames (s : State) (k : SubStream) : Prop := k = .secondary ∨ s.linkState = .framed

end Sys2Proof.Machine
end

