-- ==== Sys2Proof/Machine/Operands.lean ====
section
/-! DEFINITION. What the operations read: the header window at the scan head, its header and payload,
the resynchronised buffer, and the header of a datagram. -/

namespace Sys2Proof.Machine

/-- The class of the window at the scan head, where 4 bytes are buffered (R56, R58). -/
def State.headClass (s : State) : Option Instr :=
  match decode s.buf with
  | .ok (i, _) => some i
  | .error _ => none

/-- `h = decode(buf[0..4))` where 4 bytes are buffered (spec/41_frame_parser.md, common definitions);
`none` is NotAFrame, or fewer than 4 bytes. -/
def State.headHeader (s : State) : Option Header :=
  match s.buf with
  | b0 :: b1 :: b2 :: b3 :: _ => decodeHeader b0 b1 b2 b3
  | _ => none

/-- The payload bytes `buf[4 .. 4 + n)` (R86). -/
def payloadAt (buf : List Byte) (n : Nat) : List Byte := (buf.drop 4).take n

/-- Resynchronisation to the next magic byte after the head byte, kept (R76). -/
def resync : List Byte → List Byte
  | [] => []
  | _ :: tail => tail.dropWhile (fun b => b != magic)

/-- ENCODE (R64). `none` is InvalidLength. -/
def encodeHeader (p : Params) (t : SubStream) (n : Nat) : Option (List Byte) :=
  if 0x7FFF < n ∨ p.maxFrame < 4 + n then none
  else some (headerBytes t (BitVec.ofNat 15 n))

end Sys2Proof.Machine
end

