-- ==== Sys2Proof/Machine/Ops.lean ====
section
/-! DEFINITION. The named operations over the state: the writes of each element, the output primitives
of spec/00_scope.md R12, the response to an error (spec/60_exceptions.md R107: the block has no trap),
the guard of an operation, and the effects the header classes share with the scan loop's operations. -/

namespace Sys2Proof.Machine

/-- Writes `buf` (R16). -/
def State.setBuf (s : State) (v : List Byte) : State := { s with buf := v }

/-- Writes `scan_req` (R17). -/
def State.setScanReq (s : State) (v : Bool) : State := { s with scanReq := v }

/-- Writes `link_state` (R18). -/
def State.setLinkState (s : State) (v : LinkState) : State := { s with linkState := v }

/-- Writes `since_frame` (R19). -/
def State.setSinceFrame (s : State) (v : Nat) : State := { s with sinceFrame := v }

/-- Writes `pending[k]` (R20). -/
def State.setPending (s : State) : SubStream → Option (List Byte) → State
  | .primary, v => { s with pending0 := v }
  | .secondary, v => { s with pending1 := v }

/-- Writes `lock` (R21). -/
def State.setLock (s : State) (v : Option SubStream) : State := { s with lock := v }

/-- Writes `wr_rem` (R22). -/
def State.setWrRem (s : State) (v : List Byte) : State := { s with wrRem := v }

/-- Holds the bytes of the chunk in transfer (R25; log 9). -/
def State.setRxPart (s : State) (v : List Byte) : State := { s with rxPart := v }

/-- Holds the bytes of the packet in transfer on port `k` (R25; log 9). -/
def State.setDgPart (s : State) : SubStream → List Byte → State
  | .primary, v => { s with dgPart0 := v }
  | .secondary, v => { s with dgPart1 := v }

/-- Records the value of a codec call (log 5). -/
def State.setRet (s : State) (v : CodecResult) : State := { s with ret := some v }

/-- Replaces the agenda (log 2). -/
def State.setAgenda (s : State) (v : List (List Event)) : State := { s with agenda := v }

/-- Takes a value of `cfg_timeout_i` as PASSTHROUGH_TIMEOUT, which only a reset does (R128). -/
def State.setTimeout (s : State) (t : Nat) : State := { s with cfg := { s.cfg with timeout := t } }

/-- `Emit(k, p)` (R12). -/
def State.emit (s : State) : SubStream → List Byte → State
  | .primary, p =>
    { s with outHist0 := s.outHist0 ++ [p], dispHist := s.dispHist ++ [(.primary, p)] }
  | .secondary, p =>
    { s with outHist1 := s.outHist1 ++ [p], dispHist := s.dispHist ++ [(.secondary, p)] }

/-- `SerOut(b)` (R12). -/
def State.serOut (s : State) (b : Byte) : State := { s with serHist := s.serHist ++ [b] }

/-- `Err(code, k)` (R12, R111). -/
def State.report (s : State) (code : ErrorCode) (port : Option SubStream) : State :=
  { s with errHist := s.errHist ++ [{ code := code, port := port }] }

/-- `raise Halt` (R12, R115): the one fatal response. -/
def State.raiseHalt (s : State) : State := { s with halted := true }

/-- Every state element of R15 at its reset value (R125, R33), with no transfer in progress (log 9);
the histories and the parameters stay (R26, 90_conflicts.md C12). -/
def State.clear (s : State) : State :=
  { s with
    buf := []
    scanReq := false
    linkState := .framed
    sinceFrame := 0
    pending0 := none
    pending1 := none
    lock := none
    wrRem := []
    halted := false
    rxPart := []
    dgPart0 := []
    dgPart1 := [] }

/-- Takes an operation with a guard: its next state where the guard holds, no step where it does not
(R13); in the halted state nothing but RESET is enabled (R116). -/
def perform (mnemonic : String) (s : State) (guard : Prop) [Decidable guard] (t : State) :
    Host.Outcome State Fault Refusal :=
  if s.halted then .fault .linkIoError
  else if guard then .next t
  else .refused (.notEnabled mnemonic)

/-- The effect of PARSE_SLIDE: one byte is discarded (R72). -/
def slideByte (s : State) : State := s.setBuf (s.buf.drop 1)

/-- The latch flush: one packet on port 0, unless there is nothing to emit (R73, R88). -/
def flush (s : State) (rest : List Byte) : State := if rest = [] then s else s.emit .primary rest

/-- The effect of PARSE_LATCH (R73). -/
def latch (s : State) : State :=
  (((flush s (s.buf.drop 1)).setLinkState .passthrough).setBuf []).setScanReq false

/-- The effect of PARSE_TOO_LARGE (R75). -/
def rejectHeader (s : State) : State :=
  ((s.setSinceFrame 0).report .frameTooLarge none).setBuf (resync s.buf)

/-- The effect of PARSE_WAIT (R77). -/
def awaitPayload (s : State) : State := (s.setSinceFrame 0).setScanReq false

/-- The effect of PARSE_DISPATCH on a frame of tag `t` and payload length `n` (R86). -/
def dispatchFrame (s : State) (t : SubStream) (n : Nat) : State :=
  ((s.setSinceFrame 0).emit t (payloadAt s.buf n)).setBuf (s.buf.drop (4 + n))

/-- One scan iteration on a window that is not a frame: slide or latch (R78). -/
def scanFailure (s : State) : State := if s.TimeoutExpired then latch s else slideByte s

/-- One scan iteration on a header: too large, wait or dispatch (R78). -/
def scanHeader (s : State) (t : SubStream) (n : Nat) : State :=
  if s.cfg.maxFrame < 4 + n then rejectHeader s
  else if s.buf.length < 4 + n then awaitPayload s
  else dispatchFrame s t n

/-- Stores a header window at the scan head of a running scan loop and gives the parser the next step:
what the fetch of the window needs, and nothing else (log 2). -/
def placeWindow (s : State) (window : List Byte) : State :=
  { s with
    buf := window ++ s.buf.drop window.length
    scanReq := true
    linkState := .framed
    halted := false
    agenda := [.scan] :: s.agenda }

end Sys2Proof.Machine
end

