-- ==== Sys2Proof/Machine/Arbiter.lean ====
section
/-! DEFINITION. The serial output: the arbiter and the writer (spec/43_reframing_arbiter.md R100 to R104). -/

namespace Sys2Proof.Machine

/-- ACQUIRE (R100): the grant names the port, either is admitted when both are pending (R104). -/
def execAcquire (k : SubStream) (s : State) : Host.Outcome State Fault Refusal :=
  match s.pending k with
  | some q =>
    perform "ACQUIRE" s (s.lock = none) (((s.setLock (some k)).setWrRem q).setPending k none)
  | none => perform "ACQUIRE" s False s

/-- The lock after a byte is written: released with the last one (R101, R102). -/
def lockAfter (lock : Option SubStream) (rest : List Byte) : Option SubStream :=
  if rest = [] then none else lock

/-- TX_BYTE (R101). A held lock with nothing left to write is outside every reachable state
(10_state.md R31(c)); there the operation has no byte to write and no step (log 17). -/
def execTxByte (s : State) : Host.Outcome State Fault Refusal :=
  match s.wrRem with
  | b :: rest =>
    perform "TX_BYTE" s (s.lock ≠ none)
      (((s.serOut b).setWrRem rest).setLock (lockAfter s.lock rest))
  | [] => perform "TX_BYTE" s False s

end Sys2Proof.Machine
end

