-- ==== Sys2Proof/Machine/Classes.lean ====
section
/-! DEFINITION. The header classes (spec/30_encoding.md R56) run at the scan head: one iteration of the
scan loop on a window of that class, with the operation the selection table names for it
(spec/41_frame_parser.md R78; log 7). -/

namespace Sys2Proof.Machine

/-- HDR_PRIMARY: PARSE_TOO_LARGE, PARSE_WAIT or PARSE_DISPATCH to port 0 (R75, R77, R86). -/
def execHdrPrimary (len : Len) (s : State) : Host.Outcome State Fault Refusal :=
  perform "HDR_PRIMARY" s (s.Parsing ∧ s.headClass = some (.hdrPrimary len))
    (scanHeader s .primary len.toNat)

/-- HDR_SECONDARY: PARSE_TOO_LARGE, PARSE_WAIT or PARSE_DISPATCH to port 1 (R75, R77, R86). -/
def execHdrSecondary (len : Len) (s : State) : Host.Outcome State Fault Refusal :=
  perform "HDR_SECONDARY" s (s.Parsing ∧ s.headClass = some (.hdrSecondary len))
    (scanHeader s .secondary len.toNat)

/-- NAF_MAGIC: PARSE_SLIDE or PARSE_LATCH (R72, R73). -/
def execNafMagic (b0 b1 b2 b3 : Byte) (s : State) : Host.Outcome State Fault Refusal :=
  perform "NAF_MAGIC" s (s.Parsing ∧ s.headClass = some (.nafMagic b0 b1 b2 b3)) (scanFailure s)

/-- NAF_CHECKSUM: PARSE_SLIDE or PARSE_LATCH (R72, R73). -/
def execNafChecksum (b1 b2 b3 : Byte) (s : State) : Host.Outcome State Fault Refusal :=
  perform "NAF_CHECKSUM" s (s.Parsing ∧ s.headClass = some (.nafChecksum b1 b2 b3)) (scanFailure s)

end Sys2Proof.Machine
end

