-- ==== Sys2Proof/Machine/Codec.lean ====
section
/-! DEFINITION. The header codec (spec/40_header_codec.md): three pure functions, always defined, which
write no state and append nothing. Their returned value goes to `ret`, the model's own field (log 5);
they answer in the halted state too (log 6). -/

namespace Sys2Proof.Machine

/-- CHECKSUM (R63). -/
def execChecksum (b0 b1 b2 : Byte) (s : State) : Host.Outcome State Fault Refusal :=
  .next (s.setRet (.checksum (checksum b0 b1 b2)))

/-- ENCODE (R64): 4 header bytes or InvalidLength. -/
def execEncode (tag : SubStream) (n : Nat) (s : State) : Host.Outcome State Fault Refusal :=
  match encodeHeader s.cfg tag n with
  | some bytes => .next (s.setRet (.encoded bytes))
  | none => .next (s.setRet .invalidLength)

/-- DECODE (R65): a header or NotAFrame. -/
def execDecode (b0 b1 b2 b3 : Byte) (s : State) : Host.Outcome State Fault Refusal :=
  match decodeHeader b0 b1 b2 b3 with
  | some h => .next (s.setRet (.decoded h))
  | none => .next (s.setRet .notAFrame)

end Sys2Proof.Machine
end

