-- ==== Sys2Proof/Machine/Demux.lean ====
section
/-! DEFINITION. The demultiplexer (spec/42_demultiplexer.md): the dispatch of a complete frame and the
raw forwarding in Passthrough. -/

namespace Sys2Proof.Machine

/-- PARSE_DISPATCH (R86): the payload to the port of the tag (R85). -/
def execParseDispatch (s : State) : Host.Outcome State Fault Refusal :=
  match s.headHeader with
  | some h =>
    perform "PARSE_DISPATCH" s
      (s.Parsing ∧ 4 + h.len.toNat ≤ s.cfg.maxFrame ∧ 4 + h.len.toNat ≤ s.buf.length)
      (dispatchFrame s h.tag h.len.toNat)
  | none => perform "PARSE_DISPATCH" s False s

/-- RAW_FORWARD (R87): one packet on port 0 for each chunk. -/
def execRawForward (c : List Byte) (s : State) : Host.Outcome State Fault Refusal :=
  perform "RAW_FORWARD" s (s.linkState = .passthrough ∧ 1 ≤ c.length ∧ c.length ≤ s.cfg.bufCap)
    (s.emit .primary c)

end Sys2Proof.Machine
end

