-- ==== Sys2Proof/Machine/Outbound.lean ====
section
/-! DEFINITION. Acceptance of datagrams by the outbound agents (spec/43_reframing_arbiter.md R92 to R99). -/

namespace Sys2Proof.Machine

/-- DG_DROP_OVERSIZE (R94): dropped whole and reported. -/
def execDgDropOversize (k : SubStream) (d : List Byte) (s : State) :
    Host.Outcome State Fault Refusal :=
  perform "DG_DROP_OVERSIZE" s (s.PortFree k ∧ s.cfg.maxPayload < d.length)
    (s.report .oversizedDatagram (some k))

/-- DG_DROP_INVALID (R95). In a configuration that satisfies R8 its guard is never true; the
configuration is `step`'s to refuse, so the operation keeps its effect here (log 13). -/
def execDgDropInvalid (k : SubStream) (d : List Byte) (s : State) :
    Host.Outcome State Fault Refusal :=
  perform "DG_DROP_INVALID" s
    (s.PortFree k ∧ d.length ≤ s.cfg.maxPayload ∧ s.Frames k ∧ encodeHeader s.cfg k d.length = none)
    (s.report .invalidLength (some k))

/-- DG_FRAMED (R96): the framing is decided here (R99), the tag is the port's own. -/
def execDgFramed (k : SubStream) (d : List Byte) (s : State) : Host.Outcome State Fault Refusal :=
  match encodeHeader s.cfg k d.length with
  | some h =>
    perform "DG_FRAMED" s (s.PortFree k ∧ d.length ≤ s.cfg.maxPayload ∧ s.Frames k)
      (s.setPending k (some (h ++ d)))
  | none => perform "DG_FRAMED" s False s

/-- DG_RAW (R97): raw bytes, and nothing at all for an empty datagram (R105). -/
def execDgRaw (d : List Byte) (s : State) : Host.Outcome State Fault Refusal :=
  perform "DG_RAW" s
    (s.PortFree .primary ∧ s.linkState = .passthrough ∧ d.length ≤ s.cfg.maxPayload)
    (if 0 < d.length then s.setPending .primary (some d) else s)

end Sys2Proof.Machine
end

