-- ==== Sys2Proof/Machine/Parser.lean ====
section
/-! DEFINITION. The inbound parser in Framed state and its timer (spec/41_frame_parser.md). -/

namespace Sys2Proof.Machine

/-- RX_CHUNK (R70). -/
def execRxChunk (c : List Byte) (s : State) : Host.Outcome State Fault Refusal :=
  perform "RX_CHUNK" s
    (s.linkState = .framed ∧ s.scanReq = false ∧ 1 ≤ c.length ∧ c.length ≤ s.cfg.bufCap - s.buf.length)
    ((s.setBuf (s.buf ++ c)).setScanReq true)

/-- PARSE_IDLE (R71). -/
def execParseIdle (s : State) : Host.Outcome State Fault Refusal :=
  perform "PARSE_IDLE" s (s.Parsing ∧ s.buf.length < 4) (s.setScanReq false)

/-- PARSE_SLIDE (R72). -/
def execParseSlide (s : State) : Host.Outcome State Fault Refusal :=
  perform "PARSE_SLIDE" s
    (s.Parsing ∧ 4 ≤ s.buf.length ∧ s.headHeader = none ∧ ¬ s.TimeoutExpired) (slideByte s)

/-- PARSE_LATCH (R73). -/
def execParseLatch (s : State) : Host.Outcome State Fault Refusal :=
  perform "PARSE_LATCH" s
    (s.Parsing ∧ 4 ≤ s.buf.length ∧ s.headHeader = none ∧ s.TimeoutExpired) (latch s)

/-- PARSE_TOO_LARGE (R75). -/
def execParseTooLarge (s : State) : Host.Outcome State Fault Refusal :=
  match s.headHeader with
  | some h =>
    perform "PARSE_TOO_LARGE" s (s.Parsing ∧ s.cfg.maxFrame < 4 + h.len.toNat) (rejectHeader s)
  | none => perform "PARSE_TOO_LARGE" s False s

/-- PARSE_WAIT (R77). -/
def execParseWait (s : State) : Host.Outcome State Fault Refusal :=
  match s.headHeader with
  | some h =>
    perform "PARSE_WAIT" s
      (s.Parsing ∧ 4 + h.len.toNat ≤ s.cfg.maxFrame ∧ s.buf.length < 4 + h.len.toNat)
      (awaitPayload s)
  | none => perform "PARSE_WAIT" s False s

/-- TICK (R79): saturating. -/
def execTick (s : State) : Host.Outcome State Fault Refusal :=
  perform "TICK" s True (s.setSinceFrame (min (s.sinceFrame + 1) s.cfg.timerMax))

end Sys2Proof.Machine
end

