-- ==== Sys2Proof/Machine/System.lean ====
section
/-! DEFINITION. The operations of the environment that stop and start the block: the fatal link fault
(spec/60_exceptions.md R115) and reset (spec/70_reset_and_hazards.md R125). -/

namespace Sys2Proof.Machine

/-- LINK_FAULT (R115): reported, then halted. -/
def execLinkFault (s : State) : Host.Outcome State Fault Refusal :=
  perform "LINK_FAULT" s True ((s.report .linkIoError none).raiseHalt)

/-- RESET (R125): enabled in every state, halted included. -/
def execReset (s : State) : Host.Outcome State Fault Refusal := .next s.clear

end Sys2Proof.Machine
end

