-- ==== Sys2Proof/Machine/Dispatch.lean ====
section
/-! DEFINITION. The meaning of every operation and header class, one arm each. -/

namespace Sys2Proof.Machine

def exec (i : Instr) (s : State) : Host.Outcome State Fault Refusal :=
  match i with
  | .hdrPrimary len => Sys2Proof.Machine.execHdrPrimary len s
  | .hdrSecondary len => Sys2Proof.Machine.execHdrSecondary len s
  | .nafMagic b0 b1 b2 b3 => Sys2Proof.Machine.execNafMagic b0 b1 b2 b3 s
  | .nafChecksum b1 b2 b3 => Sys2Proof.Machine.execNafChecksum b1 b2 b3 s
  | .checksum b0 b1 b2 => Sys2Proof.Machine.execChecksum b0 b1 b2 s
  | .encode tag n => Sys2Proof.Machine.execEncode tag n s
  | .decode b0 b1 b2 b3 => Sys2Proof.Machine.execDecode b0 b1 b2 b3 s
  | .rxChunk c => Sys2Proof.Machine.execRxChunk c s
  | .parseIdle => Sys2Proof.Machine.execParseIdle s
  | .parseSlide => Sys2Proof.Machine.execParseSlide s
  | .parseLatch => Sys2Proof.Machine.execParseLatch s
  | .parseTooLarge => Sys2Proof.Machine.execParseTooLarge s
  | .parseWait => Sys2Proof.Machine.execParseWait s
  | .tick => Sys2Proof.Machine.execTick s
  | .parseDispatch => Sys2Proof.Machine.execParseDispatch s
  | .rawForward c => Sys2Proof.Machine.execRawForward c s
  | .dgDropOversize k d => Sys2Proof.Machine.execDgDropOversize k d s
  | .dgDropInvalid k d => Sys2Proof.Machine.execDgDropInvalid k d s
  | .dgFramed k d => Sys2Proof.Machine.execDgFramed k d s
  | .dgRaw d => Sys2Proof.Machine.execDgRaw d s
  | .acquire k => Sys2Proof.Machine.execAcquire k s
  | .txByte => Sys2Proof.Machine.execTxByte s
  | .linkFault => Sys2Proof.Machine.execLinkFault s
  | .reset => Sys2Proof.Machine.execReset s

end Sys2Proof.Machine
end

