-- ==== Sys2Proof/Machine/Ports.lean ====
section
/-! DEFINITION. The output ports as functions of the state (spec/10_state.md R24, R25, R27), the codes
of an error event (spec/60_exceptions.md R111), and the beats of an emitted packet. -/

namespace Sys2Proof.Machine

/-- The bit of a link state (R18). -/
def linkStateBit : LinkState → BitVec 1
  | .framed => 0
  | .passthrough => 1

/-- The free space a chunk may take: the rest of the scan buffer in Framed (R70), the whole capacity in
Passthrough (R87). -/
def State.serialRoom (s : State) : Nat :=
  match s.linkState with
  | .framed => s.cfg.bufCap - s.buf.length
  | .passthrough => s.cfg.bufCap

/-- `ser_rx_ready`: a chunk can be accepted (R27, R131). -/
def State.serRxReady (s : State) : Bool :=
  match s.linkState with
  | .framed => !s.halted && !s.scanReq && decide (1 ≤ s.serialRoom)
  | .passthrough => !s.halted && decide (1 ≤ s.serialRoom)

/-- `dg_in k_ready`: a datagram can be accepted on port `k` (R27, R93). -/
def State.dgInReady (s : State) (k : SubStream) : Bool := decide (s.PortFree k)

/-- The output ports of the block (R24) that are levels. -/
structure Outputs where
  linkStateO : BitVec 1
  haltedO : BitVec 1
  serRxReady : Bool
  serTxValid : Bool
  /-- The byte offered on `ser_tx`, where one is. -/
  serTxData : Option Byte
  dgIn0Ready : Bool
  dgIn1Ready : Bool
  deriving DecidableEq, Repr

/-- The outputs for a level of `rst`: while it is 1 every `ready` and `valid` is 0 (R126), and so they
are while halted (R116). That `ser_tx_valid` is 1 exactly while a live owner holds the lock is DEDUCED
from R101 (log 16). -/
def State.outputs (s : State) (rst : Bool) : Outputs :=
  { linkStateO := linkStateBit s.linkState
    haltedO := if s.halted then 1 else 0
    serRxReady := !rst && s.serRxReady
    serTxValid := !rst && !s.halted && s.lock.isSome
    serTxData := if !rst && !s.halted && s.lock.isSome then s.wrRem.head? else none
    dgIn0Ready := !rst && s.dgInReady .primary
    dgIn1Ready := !rst && s.dgInReady .secondary }

/-- `err_code_o` (R111). -/
def errCode : ErrorCode → BitVec 3
  | .frameTooLarge => 1
  | .invalidLength => 2
  | .oversizedDatagram => 3
  | .linkIoError => 4
  | .socketIoError => 5

/-- `err_port_o` (R24, R111): 3 means no port. -/
def errPort : Option SubStream → BitVec 2
  | none => 3
  | some .primary => 0
  | some .secondary => 1

/-- The beats of a packet on `dg_out` (R25): an empty packet is one beat with `empty = 1, last = 1`
(R90). DESIGN CHOICE (log 20): R25 lets a packet that is not empty end at a byte with `last = 1` or at a
further beat with `empty = 1, last = 1`, and the last byte carries `last` here. -/
def packetBeats : List Byte → List PacketBeat
  | [] => [.empty true]
  | [b] => [.byte b true]
  | b :: rest => .byte b false :: packetBeats rest

end Sys2Proof.Machine
end

