-- ==== Sys2Proof/Machine/Agents.lean ====
section
/-! DEFINITION. Who moves next (spec/60_exceptions.md R119): the operation each offered event selects,
the order of events of one clock cycle (R114), and the taking of the next event of the agenda. -/

namespace Sys2Proof.Machine

/-- What the inbound parser does next: the class of the window it fetches at the scan head, or
PARSE_IDLE where fewer than 4 bytes are buffered (R71, R78). -/
def parserInstr (s : State) : Instr :=
  match s.headClass with
  | some i => i
  | none => .parseIdle

/-- The scan-loop operation that the selection table of R78 names. -/
def selectParse (s : State) : Instr :=
  if s.buf.length < 4 then .parseIdle
  else
    match s.headHeader with
    | none => if s.TimeoutExpired then .parseLatch else .parseSlide
    | some h =>
      if s.cfg.maxFrame < 4 + h.len.toNat then .parseTooLarge
      else if s.buf.length < 4 + h.len.toNat then .parseWait
      else .parseDispatch

/-- The operation that performs the arrival of a chunk (R60, R82). -/
def selectArrival (c : List Byte) (s : State) : Instr :=
  match s.linkState with
  | .framed => .rxChunk c
  | .passthrough => .rawForward c

/-- The operation that accepts a datagram, in the order of the table of R98. -/
def selectDatagram (k : SubStream) (d : List Byte) (s : State) : Instr :=
  if s.cfg.maxPayload < d.length then .dgDropOversize k d
  else if k = .primary ∧ s.linkState = .passthrough then .dgRaw d
  else if encodeHeader s.cfg k d.length = none then .dgDropInvalid k d
  else .dgFramed k d

/-- Takes an offered operation. One that is not enabled has no step (R13): the offer lapses and the
block is as it was (log 3). -/
def attempt (i : Instr) (s : State) : Host.Outcome State Fault Refusal :=
  match exec i s with
  | .next t => .next t
  | .fault .linkIoError => .next s
  | .refused (.notEnabled _) => .next s
  | .refused r => .refused r

/-- One beat of `ser_rx`, transferred only while the port is ready at its turn (R25, R27; log 21). The
bytes in transfer end as a chunk at a beat with `last = 1` or at the one that fills the free space, and
arrive; until then they are held. Bytes over the free space, which only a whole chunk taken in the middle
of a transfer can leave, begin the next chunk (log 9). -/
def serveSerialBeat (b : SerialBeat) (s : State) : Host.Outcome State Fault Refusal :=
  if s.serRxReady then
    if b.last ∨ s.serialRoom ≤ (s.rxPart ++ [b.data]).length then
      attempt (selectArrival ((s.rxPart ++ [b.data]).take s.serialRoom) s)
        (s.setRxPart ((s.rxPart ++ [b.data]).drop s.serialRoom))
    else .next (s.setRxPart (s.rxPart ++ [b.data]))
  else .next s

/-- The packet in transfer on port `k` ends as `d` and arrives (R25, R98). -/
def endPacket (k : SubStream) (d : List Byte) (s : State) : Host.Outcome State Fault Refusal :=
  attempt (selectDatagram k d s) (s.setDgPart k [])

/-- One beat of `dg_in k`, transferred only while the port is ready at its turn (R25, R27; log 21): a byte
without `last` is held, a beat with `last = 1` ends the packet, and `empty = 1` without `last` is refused
(93 item 9). -/
def serveDatagramBeat (k : SubStream) (b : PacketBeat) (s : State) :
    Host.Outcome State Fault Refusal :=
  if s.dgInReady k then
    match b with
    | .byte x false => .next (s.setDgPart k (s.dgPart k ++ [x]))
    | .byte x true => endPacket k (s.dgPart k ++ [x]) s
    | .empty true => endPacket k (s.dgPart k) s
    | .empty false => .refused .emptyBeatWithoutLast
  else .next s

/-- A value driven on `cfg_timeout_i` while `rst = 0`: it must be the one held (R128). -/
def serveTimeout (t : Nat) (s : State) : Host.Outcome State Fault Refusal :=
  if t = s.cfg.timeout then .next s else .refused .timeoutChanged

/-- A reset with a value on `cfg_timeout_i`, which must satisfy R8 (R125, R128). -/
def serveReset (t : Nat) (s : State) : Host.Outcome State Fault Refusal :=
  if (s.setTimeout t).cfg.Valid then attempt .reset (s.setTimeout t)
  else .refused .invalidConfiguration

/-- Serves one offered event. -/
def serve (e : Event) (s : State) : Host.Outcome State Fault Refusal :=
  match e with
  | .scan => attempt (parserInstr s) s
  | .operation i => attempt i s
  | .serialIn c => attempt (selectArrival c s) s
  | .serialBeat b => serveSerialBeat b s
  | .datagramIn k d => attempt (selectDatagram k d s) s
  | .datagramBeat k b => serveDatagramBeat k b s
  | .driveTimeout t => serveTimeout t s
  | .resetWith t => serveReset t s

/-- The event is `rst = 1`. -/
def Event.isReset : Event → Bool
  | .operation .reset => true
  | .resetWith _ => true
  | _ => false

/-- The event is `link_fault_i = 1`. -/
def Event.isLinkFault : Event → Bool
  | .operation .linkFault => true
  | _ => false

/-- The events of one clock cycle that take effect, in order: a reset alone, else a link fault alone,
else all of them (R114, R126). DESIGN CHOICE (log 12): a changed `cfg_timeout_i` driven in the cycle of a
link fault, or in a reset cycle apart from the reset's own event, is cancelled with the other events and
not refused. DESIGN CHOICE (logs 15 and 21): the remaining events are served in the order listed, each
beat against the ready level of its own turn, not that of the cycle's clock edge. -/
def cycleOrder (cycle : List Event) : List Event :=
  match cycle.find? Event.isReset with
  | some e => [e]
  | none =>
    match cycle.find? Event.isLinkFault with
    | some e => [e]
    | none => cycle

/-- A RESET follows in the agenda. -/
def resetFollows (agenda : List (List Event)) : Bool := agenda.any (fun c => c.any Event.isReset)

/-- What is left of the agenda when the first of `es` has been taken out of a cycle. -/
def agendaAfter (es : List Event) (later : List (List Event)) : List (List Event) :=
  if es = [] then later else es :: later

/-- Takes the next event of the agenda; with nothing offered the block takes no step (R123, log 14). -/
def takeNext (s : State) : Host.Outcome State Fault Refusal :=
  match s.agenda with
  | [] => .next s
  | cycle :: later =>
    match cycleOrder cycle with
    | [] => .next (s.setAgenda later)
    | e :: es => serve e (s.setAgenda (agendaAfter es later))

/-- One step of the block: a configuration outside R8 is refused (R8), a halted block with no RESET to
come has stopped for good (R116, log 4), and otherwise the next event is taken. -/
def advance (s : State) : Host.Outcome State Fault Refusal :=
  if s.cfg.Valid then
    if s.halted ∧ resetFollows s.agenda = false then .fault .linkIoError else takeNext s
  else .refused .invalidConfiguration

/-- Events served one after another, such as the beats of a transfer. -/
def serveAll : List Event → State → Host.Outcome State Fault Refusal
  | [], s => .next s
  | e :: es, s =>
    match serve e s with
    | .next t => serveAll es t
    | .fault r => .fault r
    | .refused r => .refused r

/-- `PARSE*` of R60: scan-loop operations until `scan_req = 0`, at most `fuel` of them (R78). -/
def scanLoop : Nat → State → Host.Outcome State Fault Refusal
  | 0, s => .next s
  | fuel + 1, s =>
    if s.scanReq then
      match exec (selectParse s) s with
      | .next t => scanLoop fuel t
      | .fault r => .fault r
      | .refused r => .refused r
    else .next s

/-- Operations performed one after another, each of which must be enabled. -/
def runOps : List Instr → State → Host.Outcome State Fault Refusal
  | [], s => .next s
  | i :: is, s =>
    match exec i s with
    | .next t => runOps is t
    | .fault r => .fault r
    | .refused r => .refused r

end Sys2Proof.Machine
end

