-- ==== Sys2Proof/Machine/Step.lean ====
section
/-! DEFINITION. One step of the machine, and the placing of an instruction where it fetches next. -/

namespace Sys2Proof.Machine

/-- One step: the next event of the agenda (R13, R119). -/
def step (s : State) : Host.Outcome State Fault Refusal := advance s

/-- The state with the header window of a table word at the scan head and the parser's step next. An
operation's row has no bits (R62): its word is laid out as the same 4 bytes. -/
def State.withFetchWord (s : State) (_nbits w : Nat) : State := placeWindow s (windowOfWord w)

end Sys2Proof.Machine
end

