-- ==== Sys2Proof/Safety.lean ====
section
/-! DEFINITION. What claims are stated in: the guard of every operation, the invariant of the reachable
states (spec/10_state.md R31), and the ends of a run (spec/70_reset_and_hazards.md R139). -/

namespace Sys2Proof.Machine

/-- The guard of every operation, as its rule gives it (R70 to R101, R115, R125); a header class is
enabled where the scan loop runs on a window of that class (log 7), and a codec function always (log 6). -/
def Guard (s : State) : Instr → Prop
  | .hdrPrimary len => s.Parsing ∧ s.headClass = some (.hdrPrimary len)
  | .hdrSecondary len => s.Parsing ∧ s.headClass = some (.hdrSecondary len)
  | .nafMagic b0 b1 b2 b3 => s.Parsing ∧ s.headClass = some (.nafMagic b0 b1 b2 b3)
  | .nafChecksum b1 b2 b3 => s.Parsing ∧ s.headClass = some (.nafChecksum b1 b2 b3)
  | .checksum _ _ _ => True
  | .encode _ _ => True
  | .decode _ _ _ _ => True
  | .rxChunk c =>
    s.halted = false ∧ s.linkState = .framed ∧ s.scanReq = false ∧ 1 ≤ c.length ∧
      c.length ≤ s.cfg.bufCap - s.buf.length
  | .parseIdle => s.Parsing ∧ s.buf.length < 4
  | .parseSlide => s.Parsing ∧ 4 ≤ s.buf.length ∧ s.headHeader = none ∧ ¬ s.TimeoutExpired
  | .parseLatch => s.Parsing ∧ 4 ≤ s.buf.length ∧ s.headHeader = none ∧ s.TimeoutExpired
  | .parseTooLarge => s.Parsing ∧ ∃ h, s.headHeader = some h ∧ s.cfg.maxFrame < 4 + h.len.toNat
  | .parseWait =>
    s.Parsing ∧ ∃ h, s.headHeader = some h ∧ 4 + h.len.toNat ≤ s.cfg.maxFrame ∧
      s.buf.length < 4 + h.len.toNat
  | .tick => s.halted = false
  | .parseDispatch =>
    s.Parsing ∧ ∃ h, s.headHeader = some h ∧ 4 + h.len.toNat ≤ s.cfg.maxFrame ∧
      4 + h.len.toNat ≤ s.buf.length
  | .rawForward c =>
    s.halted = false ∧ s.linkState = .passthrough ∧ 1 ≤ c.length ∧ c.length ≤ s.cfg.bufCap
  | .dgDropOversize k d => s.PortFree k ∧ s.cfg.maxPayload < d.length
  | .dgDropInvalid k d =>
    s.PortFree k ∧ d.length ≤ s.cfg.maxPayload ∧ s.Frames k ∧ encodeHeader s.cfg k d.length = none
  | .dgFramed k d =>
    s.PortFree k ∧ d.length ≤ s.cfg.maxPayload ∧ s.Frames k ∧ encodeHeader s.cfg k d.length ≠ none
  | .dgRaw d => s.PortFree .primary ∧ s.linkState = .passthrough ∧ d.length ≤ s.cfg.maxPayload
  | .acquire k => s.halted = false ∧ s.lock = none ∧ s.pending k ≠ none
  | .txByte => s.halted = false ∧ s.lock ≠ none ∧ s.wrRem ≠ []
  | .linkFault => s.halted = false
  | .reset => True

/-- The invariant of the reachable states: R31 with the bounds of R8, R19, R37, the emptiness clause of
R100, the agreement of the histories of R26, and the error events of R111 that a conforming
configuration can emit (R95, R124). -/
structure State.Inv (s : State) : Prop where
  /-- R8. -/
  config : s.cfg.Valid
  /-- R31(a). -/
  bufFits : s.buf.length ≤ s.cfg.bufCap
  /-- R31(b). -/
  passthroughIdle : s.linkState = .passthrough → s.buf = [] ∧ s.scanReq = false
  /-- R31(c). -/
  lockHeld : s.lock = none ↔ s.wrRem = []
  /-- R37. -/
  remFits : s.wrRem.length ≤ s.cfg.maxFrame
  /-- R31(d), and R100: a pending sequence is never empty. -/
  pendingFits : ∀ k q, s.pending k = some q → q ≠ [] ∧ q.length ≤ s.cfg.maxFrame ∧ s.lock ≠ some k
  /-- R31(e). -/
  waiting : s.scanReq = false → s.linkState = .framed →
    s.buf.length < 4 ∨ ∃ h, s.headHeader = some h ∧ 4 + h.len.toNat ≤ s.cfg.maxFrame ∧
      s.buf.length < 4 + h.len.toNat
  /-- R19, R79. -/
  timerFits : s.sinceFrame ≤ s.cfg.timerMax
  /-- R12, R26: each port's history is its part of the dispatch history. -/
  histories : ∀ k, s.outHist k = (s.dispHist.filter (fun e => e.1 = k)).map (fun e => e.2)
  /-- R95, R111, R124. -/
  errors : ∀ e ∈ s.errHist, e = ⟨.frameTooLarge, none⟩ ∨ e = ⟨.linkIoError, none⟩ ∨
    ∃ k, e = ⟨.oversizedDatagram, some k⟩
  /-- R115: the block is halted only by a reported link fault. -/
  haltReported : s.halted = true → ⟨.linkIoError, none⟩ ∈ s.errHist
  /-- R25, log 9: a chunk in transfer has not filled the free space. -/
  transferFits : s.rxPart.length < s.cfg.bufCap

/-- The operations of the inbound parser, the header classes among them (R69, R119(a)). -/
def Inbound : Instr → Prop
  | .hdrPrimary _ => True
  | .hdrSecondary _ => True
  | .nafMagic _ _ _ _ => True
  | .nafChecksum _ _ _ => True
  | .checksum _ _ _ => False
  | .encode _ _ => False
  | .decode _ _ _ _ => False
  | .rxChunk _ => True
  | .parseIdle => True
  | .parseSlide => True
  | .parseLatch => True
  | .parseTooLarge => True
  | .parseWait => True
  | .tick => False
  | .parseDispatch => True
  | .rawForward _ => True
  | .dgDropOversize _ _ => False
  | .dgDropInvalid _ _ => False
  | .dgFramed _ _ => False
  | .dgRaw _ => False
  | .acquire _ => False
  | .txByte => False
  | .linkFault => False
  | .reset => False

/-- The operations of outbound agent `k` (R92, R119(b)). -/
def Outbound (k : SubStream) : Instr → Prop
  | .hdrPrimary _ => False
  | .hdrSecondary _ => False
  | .nafMagic _ _ _ _ => False
  | .nafChecksum _ _ _ => False
  | .checksum _ _ _ => False
  | .encode _ _ => False
  | .decode _ _ _ _ => False
  | .rxChunk _ => False
  | .parseIdle => False
  | .parseSlide => False
  | .parseLatch => False
  | .parseTooLarge => False
  | .parseWait => False
  | .tick => False
  | .parseDispatch => False
  | .rawForward _ => False
  | .dgDropOversize j _ => j = k
  | .dgDropInvalid j _ => j = k
  | .dgFramed j _ => j = k
  | .dgRaw _ => k = .primary
  | .acquire _ => False
  | .txByte => False
  | .linkFault => False
  | .reset => False

/-- The error events an operation reports in a state (R108, R111). -/
def reportedBy (s : State) : Instr → List ErrorEvent
  | .hdrPrimary len => if s.cfg.maxFrame < 4 + len.toNat then [⟨.frameTooLarge, none⟩] else []
  | .hdrSecondary len => if s.cfg.maxFrame < 4 + len.toNat then [⟨.frameTooLarge, none⟩] else []
  | .nafMagic _ _ _ _ => []
  | .nafChecksum _ _ _ => []
  | .checksum _ _ _ => []
  | .encode _ _ => []
  | .decode _ _ _ _ => []
  | .rxChunk _ => []
  | .parseIdle => []
  | .parseSlide => []
  | .parseLatch => []
  | .parseTooLarge => [⟨.frameTooLarge, none⟩]
  | .parseWait => []
  | .tick => []
  | .parseDispatch => []
  | .rawForward _ => []
  | .dgDropOversize k _ => [⟨.oversizedDatagram, some k⟩]
  | .dgDropInvalid k _ => [⟨.invalidLength, some k⟩]
  | .dgFramed _ _ => []
  | .dgRaw _ => []
  | .acquire _ => []
  | .txByte => []
  | .linkFault => [⟨.linkIoError, none⟩]
  | .reset => []

/-- The serial bytes an operation brings into the scan buffer (R70). -/
def arrivedBytes : Instr → List Byte
  | .rxChunk c => c
  | _ => []

/-- The sequence an ACQUIRE grants in a state (R100). -/
def grantedBy (s : State) : Instr → List Byte
  | .acquire k => (s.pending k).getD []
  | _ => []

/-- The sequences a run of operations is granted, in the order of its ACQUIREs (R103). -/
def grantedBytes : List Instr → State → List Byte
  | [], _ => []
  | i :: is, s =>
    match exec i s with
    | .next t => grantedBy s i ++ grantedBytes is t
    | .fault _ => []
    | .refused _ => []

/-- The packets that the RAW_FORWARDs among some operations emit, in order (R87). -/
def forwardedPackets : List Instr → List (SubStream × List Byte)
  | [] => []
  | .rawForward c :: is => (.primary, c) :: forwardedPackets is
  | _ :: is => forwardedPackets is

/-- A quiescent state: only the environment can move (R139). -/
def State.Quiescent (s : State) : Prop :=
  s.scanReq = false ∧ s.pending .primary = none ∧ s.pending .secondary = none ∧ s.lock = none

/-- A claim's end state: quiescent or halted (R139). -/
def State.EndState (s : State) : Prop := s.Quiescent ∨ s.halted = true

end Sys2Proof.Machine
end

