-- ==== Sys2Proof/WellFormed.lean ====
section
/-! DEFINITION. Which terms of `Instr` the spec admits, by their operands alone. The types already bound
lengths to 15 bits (R51) and ports to 0 and 1 (R14); bounds that depend on the state or the parameters
are guards of the operations. -/

namespace Sys2Proof

/-- The operand checks: a NAF_MAGIC window does not begin with `MAGIC` and a NAF_CHECKSUM window fails
the checksum (R56); a chunk has at least one byte (R70, R87, D13). -/
def wellFormed : Instr → Bool
  | .hdrPrimary _ => true
  | .hdrSecondary _ => true
  | .nafMagic b0 _ _ _ => b0 != magic
  | .nafChecksum b1 b2 b3 => b3 != Sys2Proof.checksum magic b1 b2
  | .checksum _ _ _ => true
  | .encode _ _ => true
  | .decode _ _ _ _ => true
  | .rxChunk c => !c.isEmpty
  | .parseIdle => true
  | .parseSlide => true
  | .parseLatch => true
  | .parseTooLarge => true
  | .parseWait => true
  | .tick => true
  | .parseDispatch => true
  | .rawForward c => !c.isEmpty
  | .dgDropOversize _ _ => true
  | .dgDropInvalid _ _ => true
  | .dgFramed _ _ => true
  | .dgRaw _ => true
  | .acquire _ => true
  | .txByte => true
  | .linkFault => true
  | .reset => true

end Sys2Proof
end

