-- ==== Sys2Proof/Certificates/Slice0/Obligations.lean ====
section
/-! DEFINITION. The statements for the provers. A next state written as a record update says the
operation's effect and its frame at once: every field not named is unchanged. -/

open Sys2Proof Sys2Proof.Machine

/-! ### The header format and the codec -/

/-- Words written out from R50 and the vectors of 95_test_vectors.md decode to their classes. -/
def Obligations.SpecWordsDecodeToTheirClass : Prop :=
  decode [0x53, 0x00, 0x04, 0x57] = .ok (.hdrPrimary 4, []) ∧
  decode [0x53, 0x01, 0x23, 0x71] = .ok (.hdrPrimary 0x123, []) ∧
  decode [0x53, 0x80, 0x02, 0xD1] = .ok (.hdrSecondary 2, []) ∧
  decode [0x53, 0xFF, 0xFF, 0x53] = .ok (.hdrSecondary 0x7FFF, []) ∧
  decode [0x52, 0x00, 0x04, 0x56] = .ok (.nafMagic 0x52 0x00 0x04 0x56, []) ∧
  decode [0x53, 0x00, 0x04, 0xD7] = .ok (.nafChecksum 0x00 0x04 0xD7, []) ∧
  decode [0x53, 0x00, 0x04] = .error .shortWindow

/-- Decoding the bytes of any well-formed header class gives it back, whatever follows (R50, R56). -/
def Obligations.DecodeInvertsEncode : Prop :=
  ∀ (i : Instr) (bytes rest : List Byte),
    wellFormed i = true → encode i = some bytes → decode (bytes ++ rest) = .ok (i, rest)

/-- Every 4-byte window is the bytes of exactly one well-formed class, the decoded one (R56). -/
def Obligations.EveryWindowHasExactlyOneClass : Prop :=
  ∀ (b0 b1 b2 b3 : Byte) (rest : List Byte),
    ∃ i, decode (b0 :: b1 :: b2 :: b3 :: rest) = .ok (i, rest) ∧
      wellFormed i = true ∧ encode i = some [b0, b1, b2, b3] ∧
      ∀ j, wellFormed j = true → encode j = some [b0, b1, b2, b3] → j = i

/-- The classes as mask and match on the header word, with the length field `hdr32[22:8]` (R55, R56). -/
def Obligations.ClassesAreMasksOfTheHeaderWord : Prop :=
  ∀ (b0 b1 b2 b3 : Byte),
    let w : BitVec 32 := hdr32 b0 b1 b2 b3
    let good := w.extractLsb' 0 8 = (0x53 : BitVec 8) ^^^ w.extractLsb' 16 8 ^^^ w.extractLsb' 8 8
    (∀ len, decodeWindow b0 b1 b2 b3 = .hdrPrimary len ↔
      w &&& 0xFF800000 = 0x53000000 ∧ good ∧ len = w.extractLsb' 8 15) ∧
    (∀ len, decodeWindow b0 b1 b2 b3 = .hdrSecondary len ↔
      w &&& 0xFF800000 = 0x53800000 ∧ good ∧ len = w.extractLsb' 8 15) ∧
    (decodeWindow b0 b1 b2 b3 = .nafMagic b0 b1 b2 b3 ↔ w &&& 0xFF000000 ≠ 0x53000000) ∧
    (decodeWindow b0 b1 b2 b3 = .nafChecksum b1 b2 b3 ↔
      w &&& 0xFF000000 = 0x53000000 ∧ ¬ good)

/-- Round trip of the codec in both directions (R66). -/
def Obligations.HeaderCodecRoundTrip : Prop :=
  ∀ (p : Params), p.Valid →
    (∀ (t : SubStream) (n : Nat), n ≤ p.maxFrame - 4 →
      ∃ b0 b1 b2 b3, encodeHeader p t n = some [b0, b1, b2, b3] ∧
        ∃ len : Len, decodeHeader b0 b1 b2 b3 = some ⟨t, len⟩ ∧ len.toNat = n) ∧
    (∀ (b0 b1 b2 b3 : Byte) (t : SubStream) (len : Len),
      decodeHeader b0 b1 b2 b3 = some ⟨t, len⟩ → len.toNat ≤ p.maxFrame - 4 →
        encodeHeader p t len.toNat = some [b0, b1, b2, b3])

/-- Which changes of a valid header the decoder detects and which it cannot (R67). -/
def Obligations.SingleByteErrorsAreDetected : Prop :=
  ∀ (b0 b1 b2 b3 : Byte) (h : Header), decodeHeader b0 b1 b2 b3 = some h →
    (∀ x, (x ≠ b0 → decodeHeader x b1 b2 b3 = none) ∧ (x ≠ b1 → decodeHeader b0 x b2 b3 = none) ∧
      (x ≠ b2 → decodeHeader b0 b1 x b3 = none) ∧ (x ≠ b3 → decodeHeader b0 b1 b2 x = none)) ∧
    (∀ e, (decodeHeader b0 (b1 ^^^ e) b2 (b3 ^^^ e)).isSome ∧
      (decodeHeader b0 b1 (b2 ^^^ e) (b3 ^^^ e)).isSome ∧
      (decodeHeader b0 (b1 ^^^ e) (b2 ^^^ e) b3).isSome) ∧
    ∃ h', decodeHeader b0 b2 b1 b3 = some h' ∧ (b1 ≠ b2 → h'.len ≠ h.len) ∧
      (b1.getLsbD 7 ≠ b2.getLsbD 7 → h'.tag ≠ h.tag)

/-- CHECKSUM answers in every state and returns the exclusive or of its operands (R63); that the value
is recorded in `ret` is the model's (log 5). -/
def Obligations.ChecksumReturnsXor : Prop :=
  ∀ (s : State) (b0 b1 b2 : Byte),
    exec (.checksum b0 b1 b2) s = .next { s with ret := some (.checksum (b0 ^^^ b1 ^^^ b2)) }

/-- ENCODE answers in every state and returns the header of R64 or InvalidLength; that the value is
recorded in `ret` is the model's (log 5). -/
def Obligations.EncodeReturnsHeaderOrInvalidLength : Prop :=
  ∀ (s : State) (t : SubStream) (n : Nat),
    (0x7FFF < n ∨ s.cfg.maxFrame < 4 + n →
      exec (.encode t n) s = .next { s with ret := some .invalidLength }) ∧
    (n ≤ 0x7FFF → 4 + n ≤ s.cfg.maxFrame → ∀ b1 b2 : Byte,
      b1.toNat = (if t = .secondary then 128 else 0) + n / 256 → b2.toNat = n % 256 →
      exec (.encode t n) s =
        .next { s with ret := some (.encoded [0x53, b1, b2, 0x53 ^^^ b1 ^^^ b2]) })

/-- DECODE answers in every state and returns the header of R65 or NotAFrame; that the value is
recorded in `ret` is the model's (log 5). -/
def Obligations.DecodeReturnsHeaderOrNotAFrame : Prop :=
  ∀ (s : State) (b0 b1 b2 b3 : Byte),
    (b0 ≠ 0x53 ∨ b3 ≠ b0 ^^^ b1 ^^^ b2 →
      exec (.decode b0 b1 b2 b3) s = .next { s with ret := some .notAFrame }) ∧
    (b0 = 0x53 → b3 = b0 ^^^ b1 ^^^ b2 → ∀ (t : SubStream) (len : Len),
      (t = if b1.toNat / 128 = 1 then SubStream.secondary else SubStream.primary) →
      len.toNat = b1.toNat % 128 * 256 + b2.toNat →
      exec (.decode b0 b1 b2 b3) s = .next { s with ret := some (.decoded ⟨t, len⟩) })

/-! ### The inbound parser -/

/-- RX_CHUNK: guard and effect (R70). -/
def Obligations.RxChunkAppendsAndStartsTheScan : Prop :=
  ∀ (s : State) (c : List Byte),
    (s.halted = false ∧ s.linkState = .framed ∧ s.scanReq = false ∧ 1 ≤ c.length ∧
        c.length ≤ s.cfg.bufCap - s.buf.length →
      exec (.rxChunk c) s = .next { s with buf := s.buf ++ c, scanReq := true }) ∧
    (¬ (s.halted = false ∧ s.linkState = .framed ∧ s.scanReq = false ∧ 1 ≤ c.length ∧
        c.length ≤ s.cfg.bufCap - s.buf.length) →
      ∀ t, exec (.rxChunk c) s ≠ .next t)

/-- PARSE_IDLE: guard and effect (R71). -/
def Obligations.ParseIdleStopsAShortScan : Prop :=
  ∀ (s : State),
    (s.halted = false ∧ s.linkState = .framed ∧ s.scanReq = true ∧ s.buf.length < 4 →
      exec .parseIdle s = .next { s with scanReq := false }) ∧
    (¬ (s.halted = false ∧ s.linkState = .framed ∧ s.scanReq = true ∧ s.buf.length < 4) →
      ∀ t, exec .parseIdle s ≠ .next t)

/-- PARSE_SLIDE: guard and effect (R72). -/
def Obligations.ParseSlideDropsOneByte : Prop :=
  ∀ (s : State),
    (s.halted = false ∧ s.linkState = .framed ∧ s.scanReq = true ∧ 4 ≤ s.buf.length ∧
        s.headHeader = none ∧ ¬ s.cfg.timeout < s.sinceFrame →
      exec .parseSlide s = .next { s with buf := s.buf.drop 1 }) ∧
    (¬ (s.halted = false ∧ s.linkState = .framed ∧ s.scanReq = true ∧ 4 ≤ s.buf.length ∧
        s.headHeader = none ∧ ¬ s.cfg.timeout < s.sinceFrame) →
      ∀ t, exec .parseSlide s ≠ .next t)

/-- PARSE_LATCH: guard and effect; the flush is never empty, since 4 bytes are buffered (R73, R88). -/
def Obligations.ParseLatchFlushesTheRest : Prop :=
  ∀ (s : State),
    (s.halted = false ∧ s.linkState = .framed ∧ s.scanReq = true ∧ 4 ≤ s.buf.length ∧
        s.headHeader = none ∧ s.cfg.timeout < s.sinceFrame →
      exec .parseLatch s = .next { s with
        linkState := .passthrough, buf := [], scanReq := false,
        outHist0 := s.outHist0 ++ [s.buf.drop 1],
        dispHist := s.dispHist ++ [(.primary, s.buf.drop 1)] }) ∧
    (¬ (s.halted = false ∧ s.linkState = .framed ∧ s.scanReq = true ∧ 4 ≤ s.buf.length ∧
        s.headHeader = none ∧ s.cfg.timeout < s.sinceFrame) →
      ∀ t, exec .parseLatch s ≠ .next t)

/-- PARSE_TOO_LARGE: guard and effect, with the resynchronisation to the least magic index from 1 on,
or to the empty buffer (R75, R76). -/
def Obligations.ParseTooLargeResynchronises : Prop :=
  ∀ (s : State),
    (∀ h, s.halted = false → s.linkState = .framed → s.scanReq = true → s.headHeader = some h →
      s.cfg.maxFrame < 4 + h.len.toNat →
      (∀ i, 1 ≤ i → s.buf[i]? = some 0x53 → (∀ j, 1 ≤ j → j < i → s.buf[j]? ≠ some 0x53) →
        exec .parseTooLarge s = .next { s with
          sinceFrame := 0, errHist := s.errHist ++ [⟨.frameTooLarge, none⟩],
          buf := s.buf.drop i }) ∧
      ((∀ j, 1 ≤ j → s.buf[j]? ≠ some 0x53) →
        exec .parseTooLarge s = .next { s with
          sinceFrame := 0, errHist := s.errHist ++ [⟨.frameTooLarge, none⟩], buf := [] })) ∧
    (¬ (s.halted = false ∧ s.linkState = .framed ∧ s.scanReq = true ∧
        ∃ h, s.headHeader = some h ∧ s.cfg.maxFrame < 4 + h.len.toNat) →
      ∀ t, exec .parseTooLarge s ≠ .next t)

/-- PARSE_WAIT: guard and effect (R77). -/
def Obligations.ParseWaitKeepsTheBuffer : Prop :=
  ∀ (s : State),
    (∀ h, s.halted = false → s.linkState = .framed → s.scanReq = true → s.headHeader = some h →
      4 + h.len.toNat ≤ s.cfg.maxFrame → s.buf.length < 4 + h.len.toNat →
      exec .parseWait s = .next { s with sinceFrame := 0, scanReq := false }) ∧
    (¬ (s.halted = false ∧ s.linkState = .framed ∧ s.scanReq = true ∧
        ∃ h, s.headHeader = some h ∧ 4 + h.len.toNat ≤ s.cfg.maxFrame ∧
          s.buf.length < 4 + h.len.toNat) →
      ∀ t, exec .parseWait s ≠ .next t)

/-- TICK: guard and saturating effect (R79). -/
def Obligations.TickSaturates : Prop :=
  ∀ (s : State),
    (s.halted = false →
      exec .tick s = .next { s with sinceFrame := min (s.sinceFrame + 1) (2 ^ s.cfg.tw - 1) }) ∧
    (s.halted = true → ∀ t, exec .tick s ≠ .next t)

/-- PARSE_DISPATCH: guard and effect, the port named by the tag (R85, R86). -/
def Obligations.ParseDispatchEmitsThePayload : Prop :=
  ∀ (s : State),
    (∀ len, s.halted = false → s.linkState = .framed → s.scanReq = true →
      4 + BitVec.toNat len ≤ s.cfg.maxFrame → 4 + BitVec.toNat len ≤ s.buf.length →
      (s.headHeader = some ⟨.primary, len⟩ →
        exec .parseDispatch s = .next { s with
          sinceFrame := 0, outHist0 := s.outHist0 ++ [(s.buf.drop 4).take len.toNat],
          dispHist := s.dispHist ++ [(.primary, (s.buf.drop 4).take len.toNat)],
          buf := s.buf.drop (4 + len.toNat) }) ∧
      (s.headHeader = some ⟨.secondary, len⟩ →
        exec .parseDispatch s = .next { s with
          sinceFrame := 0, outHist1 := s.outHist1 ++ [(s.buf.drop 4).take len.toNat],
          dispHist := s.dispHist ++ [(.secondary, (s.buf.drop 4).take len.toNat)],
          buf := s.buf.drop (4 + len.toNat) })) ∧
    (¬ (s.halted = false ∧ s.linkState = .framed ∧ s.scanReq = true ∧
        ∃ h, s.headHeader = some h ∧ 4 + h.len.toNat ≤ s.cfg.maxFrame ∧
          4 + h.len.toNat ≤ s.buf.length) →
      ∀ t, exec .parseDispatch s ≠ .next t)

/-- RAW_FORWARD: guard and effect (R87). -/
def Obligations.RawForwardEmitsTheChunk : Prop :=
  ∀ (s : State) (c : List Byte),
    (s.halted = false ∧ s.linkState = .passthrough ∧ 1 ≤ c.length ∧ c.length ≤ s.cfg.bufCap →
      exec (.rawForward c) s = .next { s with
        outHist0 := s.outHist0 ++ [c], dispHist := s.dispHist ++ [(.primary, c)] }) ∧
    (¬ (s.halted = false ∧ s.linkState = .passthrough ∧ 1 ≤ c.length ∧ c.length ≤ s.cfg.bufCap) →
      ∀ t, exec (.rawForward c) s ≠ .next t)

/-- The header classes run at the scan head: too large, wait or dispatch to the port of the tag. That a
class runs as one scan iteration is the model's reading (log 7). -/
def Obligations.HeaderClassesRunTheScanIteration : Prop :=
  ∀ (s : State) (t : SubStream) (len : Len) (rest : List Byte),
    s.halted = false → s.linkState = .framed → s.scanReq = true →
    s.buf = headerBytes t len ++ rest →
    ∀ i, i = (match t with | .primary => Instr.hdrPrimary len | .secondary => Instr.hdrSecondary len) →
      (s.cfg.maxFrame < 4 + len.toNat →
        exec i s = .next { s with
          sinceFrame := 0, errHist := s.errHist ++ [⟨.frameTooLarge, none⟩], buf := resync s.buf }) ∧
      (4 + len.toNat ≤ s.cfg.maxFrame → rest.length < len.toNat →
        exec i s = .next { s with sinceFrame := 0, scanReq := false }) ∧
      (4 + len.toNat ≤ s.cfg.maxFrame → ∀ payload after,
        rest = payload ++ after → payload.length = len.toNat →
        exec i s = .next { s.emit t payload with sinceFrame := 0, buf := after })

/-- The classes of a window that is no frame run at the scan head: slide or latch. That a class runs as
one scan iteration is the model's reading (log 7). -/
def Obligations.NotAFrameClassesRunTheScanIteration : Prop :=
  ∀ (s : State) (b0 b1 b2 b3 : Byte) (rest : List Byte),
    s.halted = false → s.linkState = .framed → s.scanReq = true →
    s.buf = b0 :: b1 :: b2 :: b3 :: rest →
    ∀ i, (b0 ≠ 0x53 ∧ i = .nafMagic b0 b1 b2 b3) ∨
        (b0 = 0x53 ∧ b3 ≠ b0 ^^^ b1 ^^^ b2 ∧ i = .nafChecksum b1 b2 b3) →
      (s.sinceFrame ≤ s.cfg.timeout →
        exec i s = .next { s with buf := b1 :: b2 :: b3 :: rest }) ∧
      (s.cfg.timeout < s.sinceFrame →
        exec i s = .next { s with
          linkState := .passthrough, buf := [], scanReq := false,
          outHist0 := s.outHist0 ++ [b1 :: b2 :: b3 :: rest],
          dispHist := s.dispHist ++ [(.primary, b1 :: b2 :: b3 :: rest)] })

/-- The selection table of R78: exactly the named operation is enabled, none outside a running scan, and
a step that keeps the scan running shortens the buffer. -/
def Obligations.ScanSelectsExactlyOneOperation : Prop :=
  ∀ (s : State) (i : Instr),
    i ∈ [Instr.parseIdle, .parseSlide, .parseLatch, .parseTooLarge, .parseWait, .parseDispatch] →
    (¬ (s.halted = false ∧ s.linkState = .framed ∧ s.scanReq = true) → ∀ t, exec i s ≠ .next t) ∧
    (s.halted = false → s.linkState = .framed → s.scanReq = true →
      ((∃ t, exec i s = .next t) ↔
        (s.buf.length < 4 ∧ i = .parseIdle) ∨
        (4 ≤ s.buf.length ∧ s.headHeader = none ∧ s.sinceFrame ≤ s.cfg.timeout ∧ i = .parseSlide) ∨
        (4 ≤ s.buf.length ∧ s.headHeader = none ∧ s.cfg.timeout < s.sinceFrame ∧ i = .parseLatch) ∨
        (4 ≤ s.buf.length ∧ ∃ h, s.headHeader = some h ∧
          ((s.cfg.maxFrame < 4 + h.len.toNat ∧ i = .parseTooLarge) ∨
           (4 + h.len.toNat ≤ s.cfg.maxFrame ∧ s.buf.length < 4 + h.len.toNat ∧ i = .parseWait) ∨
           (4 + h.len.toNat ≤ s.cfg.maxFrame ∧ 4 + h.len.toNat ≤ s.buf.length ∧
             i = .parseDispatch)))) ∧
      ∀ t, exec i s = .next t → t.scanReq = true → t.buf.length < s.buf.length)

/-- `PARSE*` reaches `scan_req = 0` after at most `len(buf)` operations (R78), and after one where the
buffer is already empty. -/
def Obligations.ScanLoopEndsWithinTheBuffer : Prop :=
  ∀ (s : State), s.halted = false → s.linkState = .framed → s.scanReq = true →
    ∃ t, scanLoop (max 1 s.buf.length) s = .next t ∧ t.scanReq = false

/-- The class of the window at the scan head runs the operation that the table of R78 names for it; that
it does so is the model's reading (log 7). -/
def Obligations.FetchedClassRunsTheSelectedOperation : Prop :=
  ∀ (s : State), s.halted = false → s.linkState = .framed → s.scanReq = true →
    ∃ t, exec (parserInstr s) s = .next t ∧ exec (selectParse s) s = .next t

/-! ### Outbound: acceptance, arbiter, writer -/

/-- DG_DROP_OVERSIZE: guard and effect (R94). -/
def Obligations.OversizedDatagramIsDroppedAndReported : Prop :=
  ∀ (s : State) (k : SubStream) (d : List Byte),
    (s.halted = false ∧ s.pending k = none ∧ s.lock ≠ some k ∧ s.cfg.maxFrame - 4 < d.length →
      exec (.dgDropOversize k d) s = .next { s with
        errHist := s.errHist ++ [⟨.oversizedDatagram, some k⟩] }) ∧
    (¬ (s.halted = false ∧ s.pending k = none ∧ s.lock ≠ some k ∧ s.cfg.maxFrame - 4 < d.length) →
      ∀ t, exec (.dgDropOversize k d) s ≠ .next t)

/-- DG_DROP_INVALID: guard and effect, and no configuration that satisfies R8 enables it (R95). That `exec`
answers in a configuration R8 has a model refuse is the model's (log 13). -/
def Obligations.InvalidLengthIsDroppedAndReported : Prop :=
  ∀ (s : State) (k : SubStream) (d : List Byte),
    (s.halted = false ∧ s.pending k = none ∧ s.lock ≠ some k ∧ d.length ≤ s.cfg.maxFrame - 4 ∧
        (k = .secondary ∨ s.linkState = .framed) ∧ encodeHeader s.cfg k d.length = none →
      exec (.dgDropInvalid k d) s = .next { s with
        errHist := s.errHist ++ [⟨.invalidLength, some k⟩] }) ∧
    (¬ (s.halted = false ∧ s.pending k = none ∧ s.lock ≠ some k ∧ d.length ≤ s.cfg.maxFrame - 4 ∧
        (k = .secondary ∨ s.linkState = .framed) ∧ encodeHeader s.cfg k d.length = none) →
      ∀ t, exec (.dgDropInvalid k d) s ≠ .next t) ∧
    (s.cfg.Valid → ∀ t, exec (.dgDropInvalid k d) s ≠ .next t)

/-- DG_FRAMED: guard and effect for each port (R96). -/
def Obligations.FramedDatagramIsHeaderThenData : Prop :=
  ∀ (s : State) (k : SubStream) (d : List Byte),
    (∀ h, s.halted = false → s.pending k = none → s.lock ≠ some k → d.length ≤ s.cfg.maxFrame - 4 →
      (k = .secondary ∨ s.linkState = .framed) → encodeHeader s.cfg k d.length = some h →
      (k = .primary → exec (.dgFramed k d) s = .next { s with pending0 := some (h ++ d) }) ∧
      (k = .secondary → exec (.dgFramed k d) s = .next { s with pending1 := some (h ++ d) })) ∧
    (¬ (s.halted = false ∧ s.pending k = none ∧ s.lock ≠ some k ∧ d.length ≤ s.cfg.maxFrame - 4 ∧
        (k = .secondary ∨ s.linkState = .framed) ∧ encodeHeader s.cfg k d.length ≠ none) →
      ∀ t, exec (.dgFramed k d) s ≠ .next t)

/-- DG_RAW: guard and effect, and an empty datagram changes nothing (R97). -/
def Obligations.RawDatagramCarriesNoHeader : Prop :=
  ∀ (s : State) (d : List Byte),
    (s.halted = false ∧ s.pending .primary = none ∧ s.lock ≠ some .primary ∧
        s.linkState = .passthrough ∧ d.length ≤ s.cfg.maxFrame - 4 →
      (d ≠ [] → exec (.dgRaw d) s = .next { s with pending0 := some d }) ∧
      (d = [] → exec (.dgRaw d) s = .next s)) ∧
    (¬ (s.halted = false ∧ s.pending .primary = none ∧ s.lock ≠ some .primary ∧
        s.linkState = .passthrough ∧ d.length ≤ s.cfg.maxFrame - 4) →
      ∀ t, exec (.dgRaw d) s ≠ .next t)

/-- The selection table of R98: of the acceptance operations of a free port exactly the named one is
enabled for a datagram. DG_RAW is an operation of port 0 only (R97). -/
def Obligations.DatagramSelectsExactlyOneOperation : Prop :=
  ∀ (s : State) (k : SubStream) (d : List Byte) (i : Instr),
    s.halted = false → s.pending k = none → s.lock ≠ some k →
    (i = .dgDropOversize k d ∨ (k = .primary ∧ i = .dgRaw d) ∨ i = .dgDropInvalid k d ∨
      i = .dgFramed k d) →
    ((∃ t, exec i s = .next t) ↔
      if s.cfg.maxFrame - 4 < d.length then i = .dgDropOversize k d
      else if k = .primary ∧ s.linkState = .passthrough then i = .dgRaw d
      else if encodeHeader s.cfg k d.length = none then i = .dgDropInvalid k d
      else i = .dgFramed k d)

/-- ACQUIRE: guard and effect, either port when both are pending (R100). -/
def Obligations.AcquireGrantsTheSequence : Prop :=
  ∀ (s : State),
    (∀ q, s.halted = false → s.lock = none →
      (s.pending .primary = some q → exec (.acquire .primary) s = .next { s with
        lock := some .primary, wrRem := q, pending0 := none }) ∧
      (s.pending .secondary = some q → exec (.acquire .secondary) s = .next { s with
        lock := some .secondary, wrRem := q, pending1 := none })) ∧
    (∀ k, ¬ (s.halted = false ∧ s.lock = none ∧ s.pending k ≠ none) →
      ∀ t, exec (.acquire k) s ≠ .next t)

/-- TX_BYTE: guard and effect; the last byte releases the lock (R101). That it has no step where the
lock is held with nothing left to write, outside every reachable state, is the model's (log 17). -/
def Obligations.TxByteWritesTheNextByte : Prop :=
  ∀ (s : State),
    (∀ b rest, s.halted = false → s.lock ≠ none → s.wrRem = b :: rest →
      (rest = [] → exec .txByte s = .next { s with
        serHist := s.serHist ++ [b], wrRem := [], lock := none }) ∧
      (rest ≠ [] → exec .txByte s = .next { s with serHist := s.serHist ++ [b], wrRem := rest })) ∧
    (¬ (s.halted = false ∧ s.lock ≠ none ∧ s.wrRem ≠ []) → ∀ t, exec .txByte s ≠ .next t)

/-- A pending sequence that is granted and written to its end stands whole and contiguous on the serial
output, the lock is free again, and nothing else has changed (R100, R101, R102). -/
def Obligations.GrantedSequenceIsWrittenWhole : Prop :=
  ∀ (s : State) (k : SubStream) (q : List Byte),
    s.halted = false → s.lock = none → s.pending k = some q → q ≠ [] →
    runOps (.acquire k :: List.replicate q.length .txByte) s = .next { s with
      serHist := s.serHist ++ q, lock := none, wrRem := [],
      pending0 := if k = .primary then none else s.pending0,
      pending1 := if k = .secondary then none else s.pending1 }

/-- Non-interleaving: over every run of operations without a reset, a cut by LINK_FAULT included, what
has been written and what the owner still has to write is the concatenation of the granted sequences in
the order of their ACQUIREs (R103). -/
def Obligations.SerialOutputIsTheGrantedSequencesInOrder : Prop :=
  ∀ (ops : List Instr) (s t : State), .reset ∉ ops →
    (s.lock = none → s.wrRem = []) → runOps ops s = .next t →
    s.serHist ++ s.wrRem ++ grantedBytes ops s = t.serHist ++ t.wrRem ∧
      (t.lock = none → t.wrRem = [])

/-! ### Link fault, halted, reset -/

/-- LINK_FAULT: guard and effect (R115). -/
def Obligations.LinkFaultReportsAndHalts : Prop :=
  ∀ (s : State),
    (s.halted = false → exec .linkFault s = .next { s with
      errHist := s.errHist ++ [⟨.linkIoError, none⟩], halted := true }) ∧
    (s.halted = true → ∀ t, exec .linkFault s ≠ .next t)

/-- The halted state: no agent's operation but RESET is enabled, the outputs are idle, and a run with no
RESET to come has stopped with the fault (R116). That the pure codec functions still answer is the
model's (log 6), and that the fault waits for the agenda to hold no RESET is too (log 4). -/
def Obligations.HaltedStopsTheBlock : Prop :=
  ∀ (s : State), s.halted = true →
    (∀ i, i ≠ .reset → (∀ b0 b1 b2, i ≠ .checksum b0 b1 b2) → (∀ t n, i ≠ .encode t n) →
      (∀ b0 b1 b2 b3, i ≠ .decode b0 b1 b2 b3) → ∀ t, exec i s ≠ .next t) ∧
    (∀ rst, (s.outputs rst).haltedO = 1 ∧ (s.outputs rst).serRxReady = false ∧
      (s.outputs rst).serTxValid = false ∧ (s.outputs rst).dgIn0Ready = false ∧
      (s.outputs rst).dgIn1Ready = false) ∧
    (s.cfg.Valid → resetFollows s.agenda = false → step s = .fault .linkIoError)

/-- RESET: every state element of R15 at its reset value, in every state; histories, parameters, `ret`
and `agenda` stay (R125, R26). What it leaves of a transfer in progress, which R15 does not name, is
said in `BeatsAreHeldUntilTheirTransactionEnds` (log 9). -/
def Obligations.ResetClearsEveryStateElement : Prop :=
  ∀ (s : State), ∃ t, exec .reset s = .next t ∧ t = { s with
    buf := [], scanReq := false, linkState := .framed, sinceFrame := 0, pending0 := none,
    pending1 := none, lock := none, wrRem := [], halted := false,
    rxPart := t.rxPart, dgPart0 := t.dgPart0, dgPart1 := t.dgPart1 }

/-- The reset values of R33, the outputs among them. -/
def Obligations.ResetStateHoldsTheResetValues : Prop :=
  State.reset.buf = [] ∧ State.reset.scanReq = false ∧ State.reset.linkState = .framed ∧
  State.reset.sinceFrame = 0 ∧ State.reset.pending .primary = none ∧
  State.reset.pending .secondary = none ∧ State.reset.lock = none ∧ State.reset.wrRem = [] ∧
  State.reset.halted = false ∧ State.reset.outHist .primary = [] ∧
  State.reset.outHist .secondary = [] ∧ State.reset.dispHist = [] ∧ State.reset.serHist = [] ∧
  State.reset.errHist = [] ∧ (State.reset.outputs false).linkStateO = 0 ∧
  (State.reset.outputs false).haltedO = 0

/-! ### Whole-block rules -/

/-- Every operation answers a next state exactly where its guard holds (R13); where it does not, a live
block refuses by name and a halted one faults. The refusal and the fault are the model's form of "no
step" (logs 3 and 4), and so are the guards of the codec (log 6), the classes (log 7) and the last
conjunct of TX_BYTE's (log 17). -/
def Obligations.OperationsStepExactlyWhereTheirGuardHolds : Prop :=
  ∀ (i : Instr) (s : State),
    ((∃ t, exec i s = .next t) ↔ Guard s i) ∧
    (¬ Guard s i → s.halted = false → ∃ m, exec i s = .refused (.notEnabled m)) ∧
    (¬ Guard s i → s.halted = true → exec i s = .fault .linkIoError)

/-- The latch is one-way (R74): `link_state` changes only where PARSE_LATCH does it, or RESET; in
Passthrough no scan operation is enabled; and it stays over every run without a reset. -/
def Obligations.LatchIsOneWay : Prop :=
  (∀ (i : Instr) (s t : State), exec i s = .next t → t.linkState ≠ s.linkState →
    i = .reset ∨ (s.linkState = .framed ∧ t.linkState = .passthrough ∧
      exec .parseLatch s = .next t)) ∧
  (∀ (i : Instr) (s t : State), s.linkState = .passthrough →
    i ∈ [Instr.parseIdle, .parseSlide, .parseLatch, .parseTooLarge, .parseWait, .parseDispatch] →
    exec i s ≠ .next t) ∧
  (∀ (ops : List Instr) (s t : State), .reset ∉ ops → s.linkState = .passthrough →
    runOps ops s = .next t → t.linkState = .passthrough)

/-- The timer is cleared by exactly the operations whose head window is a header, and by RESET; TICK is
its only other writer (R80, R32). -/
def Obligations.TimerIsClearedByHeadersOnly : Prop :=
  (∀ (i : Instr) (s t : State), exec i s = .next t → i ≠ .tick → i ≠ .reset →
    t.sinceFrame ≠ s.sinceFrame →
      t.sinceFrame = 0 ∧ ∃ h, s.headHeader = some h ∧
        (exec .parseTooLarge s = .next t ∨ exec .parseWait s = .next t ∨
          exec .parseDispatch s = .next t)) ∧
  (∀ (s t : State), exec .parseTooLarge s = .next t ∨ exec .parseWait s = .next t ∨
    exec .parseDispatch s = .next t ∨ exec .reset s = .next t → t.sinceFrame = 0)

/-- Who writes each state element (R32); the bytes of a transfer in progress, the model's own fields
(log 9), no operation but RESET writes. -/
def Obligations.EachElementHasItsWriters : Prop :=
  ∀ (i : Instr) (s t : State), exec i s = .next t → i ≠ .reset →
    (t.buf ≠ s.buf ∨ t.scanReq ≠ s.scanReq ∨ t.linkState ≠ s.linkState → Inbound i) ∧
    (t.sinceFrame ≠ s.sinceFrame → Inbound i ∨ i = .tick) ∧
    (∀ k, t.pending k ≠ s.pending k → Outbound k i ∨ i = .acquire k) ∧
    (t.lock ≠ s.lock ∨ t.wrRem ≠ s.wrRem → (∃ k, i = .acquire k) ∨ i = .txByte) ∧
    (t.halted ≠ s.halted → i = .linkFault) ∧ t.cfg = s.cfg ∧ t.rxPart = s.rxPart ∧
    ∀ k, t.dgPart k = s.dgPart k

/-- The four histories only ever grow, over every step of the machine, a reset among them (R26). -/
def Obligations.HistoriesOnlyGrow : Prop :=
  ∀ (s t : State), step s = .next t →
    (∀ k, s.outHist k <+: t.outHist k) ∧ s.dispHist <+: t.dispHist ∧ s.serHist <+: t.serHist ∧
      s.errHist <+: t.errHist

/-- Bytes leave the scan buffer only from its head, in the order they entered: what is left is a suffix
of what was there followed by what arrived (R36). -/
def Obligations.ScanBufferIsFirstInFirstOut : Prop :=
  ∀ (i : Instr) (s t : State), exec i s = .next t → t.buf <:+ s.buf ++ arrivedBytes i

/-- What each operation reports, and that nothing else is ever reported: NotAFrame never, the reserved
codes never (R108, R109, R111). -/
def Obligations.OperationsReportExactlyTheirErrors : Prop :=
  ∀ (i : Instr) (s t : State), exec i s = .next t → t.errHist = s.errHist ++ reportedBy s i

/-- In Passthrough, over every run without a reset, the inbound side is a raw pipe: exactly the accepted
chunks are emitted, one packet each, in order, on port 0, and nothing reaches port 1 (R87, R89). -/
def Obligations.PassthroughInboundIsARawPipe : Prop :=
  ∀ (ops : List Instr) (s t : State), .reset ∉ ops → s.linkState = .passthrough →
    runOps ops s = .next t →
    t.dispHist = s.dispHist ++ forwardedPackets ops ∧
      t.outHist .primary = s.outHist .primary ++ (forwardedPackets ops).map (fun e => e.2) ∧
      t.outHist .secondary = s.outHist .secondary

/-- Two frames around garbage (R91(c), R45), for a scan with no tick inside it: exactly the two payloads
are dispatched, in order, to the ports of their tags. -/
def Obligations.TwoFramesAroundGarbageDispatchTwice : Prop :=
  ∀ (s : State) (t1 t2 : SubStream) (p1 g p2 c : List Byte),
    s.halted = false → s.linkState = .framed → s.scanReq = false → s.buf = [] →
    p1.length ≤ 0x7FFF → 4 + p1.length ≤ s.cfg.maxFrame →
    p2.length ≤ 0x7FFF → 4 + p2.length ≤ s.cfg.maxFrame →
    c = (headerBytes t1 (BitVec.ofNat 15 p1.length) ++ p1) ++ g ++
      (headerBytes t2 (BitVec.ofNat 15 p2.length) ++ p2) →
    c.length ≤ s.cfg.bufCap →
    (∀ j b0 b1 b2 b3 rest, j < g.length →
      (g ++ (headerBytes t2 (BitVec.ofNat 15 p2.length) ++ p2)).drop j = b0 :: b1 :: b2 :: b3 :: rest →
      decodeHeader b0 b1 b2 b3 = none) →
    ∃ u t, exec (.rxChunk c) s = .next u ∧ scanLoop c.length u = .next t ∧
      t.dispHist = s.dispHist ++ [(t1, p1), (t2, p2)] ∧ t.buf = [] ∧ t.scanReq = false ∧
      t.sinceFrame = 0 ∧ t.linkState = .framed ∧ t.errHist = s.errHist

/-- No capacity deadlock (R83): a waiting parser has room for at least `2 * MAX_FRAME + 1` bytes, and
accepts every chunk of at most the free space. -/
def Obligations.WaitingParserAlwaysHasRoom : Prop :=
  ∀ (s : State), s.Inv → s.linkState = .framed → s.scanReq = false →
    s.buf.length < s.cfg.maxFrame ∧ 2 * s.cfg.maxFrame + 1 ≤ s.cfg.bufCap - s.buf.length ∧
    (s.halted = false → ∀ c : List Byte, 1 ≤ c.length → c.length ≤ s.cfg.bufCap - s.buf.length →
      ∃ t, exec (.rxChunk c) s = .next t)

/-- The invariant of the reachable states (R31, the bounds of R8, R19, R37, R100, R111, and that of the
model's transfers in progress, log 9) is kept by every step, from every state that has it. -/
def Obligations.InvariantIsKeptByEveryStep : Prop :=
  ∀ (s t : State), s.Inv → step s = .next t → t.Inv

/-- The reset state has the invariant; its parameters are the model's choice (log 1). -/
def Obligations.InvariantHoldsAtReset : Prop := State.reset.Inv

/-! ### Steps, events and ports -/

/-- A step of the parser runs the instruction it decodes at the scan head, with the agenda, the
model's own field, moved on (log 2). -/
def Obligations.StepRunsTheDecodedWindow : Prop :=
  ∀ (s : State) (later : List (List Event)) (i : Instr) (rest : List Byte),
    s.cfg.Valid → s.halted = false → s.linkState = .framed → s.scanReq = true →
    s.agenda = [.scan] :: later → decode s.buf = .ok (i, rest) →
    step s = exec i { s with agenda := later } ∧ ∃ t, step s = .next t

/-- A step takes a named operation that answers a next state, and lets one that has no step lapse, in a
live block and in a halted one with a RESET still to come; that the offer lapses is the model's choice
(logs 3 and 4). A RESET is taken in every state, halted or not (R116, R117, R125). -/
def Obligations.StepTakesOrLapsesANamedOperation : Prop :=
  (∀ (s : State) (later : List (List Event)) (i : Instr),
    s.cfg.Valid → s.agenda = [.operation i] :: later →
    (s.halted = false ∨ resetFollows s.agenda = true) →
    (∀ t, exec i { s with agenda := later } = .next t → step s = .next t) ∧
    (∀ m, exec i { s with agenda := later } = .refused (.notEnabled m) →
      step s = .next { s with agenda := later }) ∧
    (exec i { s with agenda := later } = .fault .linkIoError →
      step s = .next { s with agenda := later })) ∧
  (∀ (s : State) (later : List (List Event)),
    s.cfg.Valid → s.agenda = [.operation .reset] :: later →
    step s = exec .reset { s with agenda := later } ∧ ∃ t, step s = .next t ∧ t.halted = false)

/-- An arriving chunk is taken by RX_CHUNK in Framed and by RAW_FORWARD in Passthrough (R60); the
arrival stands in the agenda, the model's own field (log 2). -/
def Obligations.ArrivingChunkIsTakenByLinkState : Prop :=
  ∀ (s : State) (later : List (List Event)) (c : List Byte),
    s.cfg.Valid → s.halted = false → s.agenda = [.serialIn c] :: later → c ≠ [] →
    (s.linkState = .framed → s.scanReq = false → c.length ≤ s.cfg.bufCap - s.buf.length →
      step s = exec (.rxChunk c) { s with agenda := later } ∧ ∃ t, step s = .next t) ∧
    (s.linkState = .passthrough → c.length ≤ s.cfg.bufCap →
      step s = exec (.rawForward c) { s with agenda := later } ∧ ∃ t, step s = .next t)

/-- An arriving datagram is taken by the operation that the table of R98 names, and lapses where its port
is not free, which is the model's choice (log 3); the arrival stands in the agenda, the model's own field
(log 2). -/
def Obligations.ArrivingDatagramIsTakenByTheTable : Prop :=
  ∀ (s : State) (later : List (List Event)) (k : SubStream) (d : List Byte),
    s.cfg.Valid → s.halted = false → s.agenda = [.datagramIn k d] :: later →
    (s.pending k = none → s.lock ≠ some k →
      step s = exec
        (if s.cfg.maxFrame - 4 < d.length then .dgDropOversize k d
        else if k = .primary ∧ s.linkState = .passthrough then .dgRaw d
        else if encodeHeader s.cfg k d.length = none then .dgDropInvalid k d
        else .dgFramed k d) { s with agenda := later } ∧ ∃ t, step s = .next t) ∧
    (¬ (s.pending k = none ∧ s.lock ≠ some k) → step s = .next { s with agenda := later })

/-- One beat (R25), transferred exactly where the port is ready: it is held, or it ends its chunk or
packet, which then arrives; a beat with `empty = 1` and `last = 0` is refused (item 9 of
93_implementation_defined.md). Where the bytes are held, that a beat on a port that is not ready lapses,
and that a reset drops them, are the model's (logs 3 and 9). -/
def Obligations.BeatsAreHeldUntilTheirTransactionEnds : Prop :=
  (∀ (s : State) (later : List (List Event)) (b : SerialBeat),
    s.cfg.Valid → s.halted = false → s.agenda = [.serialBeat b] :: later →
    ((s.outputs false).serRxReady = false → step s = .next { s with agenda := later }) ∧
    ((s.outputs false).serRxReady = true →
      (b.last = false → s.rxPart.length + 1 < s.serialRoom →
        step s = .next { s with agenda := later, rxPart := s.rxPart ++ [b.data] }) ∧
      (b.last = true ∨ s.serialRoom ≤ s.rxPart.length + 1 →
        step s = step { s with
          agenda := [.serialIn ((s.rxPart ++ [b.data]).take s.serialRoom)] :: later,
          rxPart := (s.rxPart ++ [b.data]).drop s.serialRoom } ∧ ∃ t, step s = .next t))) ∧
  (∀ (s : State) (later : List (List Event)) (k : SubStream) (b : PacketBeat),
    s.cfg.Valid → s.halted = false → s.agenda = [.datagramBeat k b] :: later →
    (¬ (s.pending k = none ∧ s.lock ≠ some k) → step s = .next { s with agenda := later }) ∧
    (s.pending k = none → s.lock ≠ some k →
      (∀ x, b = .byte x false →
        step s = .next (({ s with agenda := later } : State).setDgPart k (s.dgPart k ++ [x]))) ∧
      (∀ x, b = .byte x true →
        step s = step (({ s with
          agenda := [.datagramIn k (s.dgPart k ++ [x])] :: later } : State).setDgPart k []) ∧
        ∃ t, step s = .next t) ∧
      (b = .empty true →
        step s = step (({ s with
          agenda := [.datagramIn k (s.dgPart k)] :: later } : State).setDgPart k []) ∧
        ∃ t, step s = .next t) ∧
      (b = .empty false → step s = .refused .emptyBeatWithoutLast))) ∧
  (∀ (s t : State), exec .reset s = .next t → t.rxPart = [] ∧ ∀ k, t.dgPart k = [])

/-- A table word placed where the parser fetches is the instruction the very next step runs. The
placing stands for the arrival of the window and is the model's (logs 2 and 8). -/
def Obligations.PlacedWordIsRunNext : Prop :=
  ∀ (s : State) (w : Nat) (i : Instr), s.cfg.Valid → decodeTableWord 32 w = some i →
    step (s.withFetchWord 32 w) = exec i { s.withFetchWord 32 w with agenda := s.agenda }

/-- Events of one clock cycle (R114): a reset, with or without a driven timeout, cancels every other, in
a halted block too (R126, R116); a link fault cancels every other but a reset; and the rest are taken one
at a time. That they are taken in the order listed is one of the interleavings the rule admits (log 15),
and each is served in the state of its own turn, where R25 tests a port at the clock edge (log 21); that
of several resets the first counts, and that a driven `cfg_timeout_i` is cancelled like any other event,
are the model's choices (log 12). -/
def Obligations.CycleOrderIsResetThenFaultThenRest : Prop :=
  ∀ (s : State) (cycle : List Event) (later : List (List Event)),
    s.cfg.Valid → s.agenda = cycle :: later →
    (∀ pre e post, cycle = pre ++ e :: post → e.isReset = true → (∀ x ∈ pre, x.isReset = false) →
      (e = .operation .reset → step s = exec .reset { s with agenda := later }) ∧
      (∀ v, e = .resetWith v → v + 2 ≤ 2 ^ s.cfg.tw →
        step s = exec .reset { s with agenda := later, cfg := { s.cfg with timeout := v } }) ∧
      (∀ v, e = .resetWith v → 2 ^ s.cfg.tw < v + 2 → step s = .refused .invalidConfiguration)) ∧
    ((∀ x ∈ cycle, x.isReset = false) →
      (s.halted = false → Event.operation .linkFault ∈ cycle →
        step s = .next { s with
          errHist := s.errHist ++ [⟨.linkIoError, none⟩], halted := true, agenda := later }) ∧
      (s.halted = false ∨ resetFollows later = true → Event.operation .linkFault ∉ cycle →
        ∀ e es, cycle = e :: es →
          step s = serve e { s with agenda := if es = [] then later else es :: later }))

/-- A configuration that violates R8 is refused. -/
def Obligations.NonconformingConfigurationIsRefused : Prop :=
  ∀ (s : State),
    ¬ (4 ≤ s.cfg.maxFrame ∧ s.cfg.maxFrame ≤ 4 + 0x7FFF ∧ 3 * s.cfg.maxFrame ≤ s.cfg.bufCap ∧
      s.cfg.timeout + 2 ≤ 2 ^ s.cfg.tw) →
    step s = .refused .invalidConfiguration

/-- `cfg_timeout_i` (R128): a change while `rst = 0` is refused, and a reset adopts the driven value
where it satisfies R8, in a halted block too. That the change comes as an event is the model's (log 12),
and so is a halted block that waits for the RESET to come (log 4). -/
def Obligations.TimeoutChangesOnlyInReset : Prop :=
  ∀ (s : State) (later : List (List Event)) (v : Nat), s.cfg.Valid →
    (s.halted = false ∨ resetFollows later = true → s.agenda = [.driveTimeout v] :: later →
      (v ≠ s.cfg.timeout → step s = .refused .timeoutChanged) ∧
      (v = s.cfg.timeout → step s = .next { s with agenda := later })) ∧
    (s.agenda = [.resetWith v] :: later →
      (v + 2 ≤ 2 ^ s.cfg.tw →
        step s = exec .reset { s with agenda := later, cfg := { s.cfg with timeout := v } } ∧
          ∃ t, step s = .next t) ∧
      (2 ^ s.cfg.tw < v + 2 → step s = .refused .invalidConfiguration))

/-- The status outputs at all times, the ready outputs with `rst = 0` (R27), and the ready and valid
outputs idle while `rst = 1` (from R126). -/
def Obligations.ReadyMeansAnOperationIsEnabled : Prop :=
  ∀ (s : State),
    (∀ rst, ((s.outputs rst).linkStateO = 1 ↔ s.linkState = .passthrough) ∧
      ((s.outputs rst).haltedO = 1 ↔ s.halted = true)) ∧
    ((s.outputs true).serRxReady = false ∧ (s.outputs true).serTxValid = false ∧
      (s.outputs true).dgIn0Ready = false ∧ (s.outputs true).dgIn1Ready = false) ∧
    ((s.outputs false).serRxReady = true ↔
      ∃ c t, exec (.rxChunk c) s = .next t ∨ exec (.rawForward c) s = .next t) ∧
    ((s.outputs false).dgIn0Ready = true ↔
      ∃ d t, exec (.dgDropOversize .primary d) s = .next t ∨ exec (.dgRaw d) s = .next t ∨
        exec (.dgDropInvalid .primary d) s = .next t ∨ exec (.dgFramed .primary d) s = .next t) ∧
    ((s.outputs false).dgIn1Ready = true ↔
      ∃ d t, exec (.dgDropOversize .secondary d) s = .next t ∨
        exec (.dgDropInvalid .secondary d) s = .next t ∨ exec (.dgFramed .secondary d) s = .next t)

/-- Beats (R25): on a ready port with no transfer in progress, the beats of a packet served one after
another do what the arrival of that packet does, whether its last byte carries `last` or an empty beat
does; and so do the beats of a chunk that ends at `last` or at the beat that fills the free space. The
beats of an emitted packet are the first form, the model's choice (log 20). -/
def Obligations.BeatsCarryTheirPacket : Prop :=
  (∀ (s : State) (k : SubStream) (p : List Byte),
    s.halted = false → s.pending k = none → s.lock ≠ some k → s.dgPart k = [] →
    serveAll ((packetBeats p).map (.datagramBeat k)) s = serve (.datagramIn k p) s ∧
    serveAll ((p.map (fun x => PacketBeat.byte x false) ++ [PacketBeat.empty true]).map (.datagramBeat k)) s =
      serve (.datagramIn k p) s) ∧
  (∀ (s : State) (bytes : List Byte) (b : Byte) (l : Bool),
    (s.outputs false).serRxReady = true → s.rxPart = [] → bytes.length < s.serialRoom →
    (l = true ∨ bytes.length + 1 = s.serialRoom) →
    serveAll ((bytes.map (fun x => (⟨x, false⟩ : SerialBeat)) ++ [(⟨b, l⟩ : SerialBeat)]).map .serialBeat) s =
      serve (.serialIn (bytes ++ [b])) s)

/-- The codes and ports of the reported errors (R111). -/
def Obligations.ErrorCodesAreThoseOfTheTable : Prop :=
  errCode .frameTooLarge = 1 ∧ errCode .invalidLength = 2 ∧ errCode .oversizedDatagram = 3 ∧
  errCode .linkIoError = 4 ∧ errCode .socketIoError = 5 ∧ errPort none = 3 ∧
  errPort (some .primary) = 0 ∧ errPort (some .secondary) = 1
end

