-- ==== Sys2Proof/Laws/Decode.lean ====
section
/-! SUPPORT. What the header format's functions answer, once each. -/

namespace Sys2Proof

/-- DECODE and the classes of R56 agree: a window decodes to a header exactly in a header class. -/
theorem decodeHeader_eq_some_iff (b0 b1 b2 b3 : Byte) (h : Header) :
    decodeHeader b0 b1 b2 b3 = some h ↔
      b0 = magic ∧ b3 = checksum b0 b1 b2 ∧ h = ⟨tagOf b1, lenOf b1 b2⟩ := by
  unfold decodeHeader
  split
  · simp_all
  · split
    · simp_all
    · next h0 h3 =>
      rw [not_not] at h0 h3
      simp only [Option.some.injEq, h0, h3, true_and]
      exact eq_comm

/-- NotAFrame is a failed magic or checksum test (R65). -/
theorem decodeHeader_eq_none_iff (b0 b1 b2 b3 : Byte) :
    decodeHeader b0 b1 b2 b3 = none ↔ b0 ≠ magic ∨ b3 ≠ checksum b0 b1 b2 := by
  unfold decodeHeader
  split
  · simp_all
  · split
    · simp_all
    · simp_all

/-- The class of a window is one of the four, each under its condition (R56). -/
theorem decodeWindow_cases (b0 b1 b2 b3 : Byte) :
    (b0 ≠ magic ∧ decodeWindow b0 b1 b2 b3 = .nafMagic b0 b1 b2 b3) ∨
    (b0 = magic ∧ b3 ≠ checksum b0 b1 b2 ∧ decodeWindow b0 b1 b2 b3 = .nafChecksum b1 b2 b3) ∨
    (b0 = magic ∧ b3 = checksum b0 b1 b2 ∧ tagOf b1 = .primary ∧
      decodeWindow b0 b1 b2 b3 = .hdrPrimary (lenOf b1 b2)) ∨
    (b0 = magic ∧ b3 = checksum b0 b1 b2 ∧ tagOf b1 = .secondary ∧
      decodeWindow b0 b1 b2 b3 = .hdrSecondary (lenOf b1 b2)) := by
  unfold decodeWindow
  split
  · simp_all
  · split
    · simp_all
    · split <;> simp_all

/-- The decoder answers exactly on 4 bytes or more, and leaves the bytes after the window. -/
theorem decode_eq_ok_iff (bs : List Byte) (i : Instr) (rest : List Byte) :
    decode bs = .ok (i, rest) ↔
      ∃ b0 b1 b2 b3, bs = b0 :: b1 :: b2 :: b3 :: rest ∧ i = decodeWindow b0 b1 b2 b3 := by
  unfold decode
  split
  · simp only [Except.ok.injEq, Prod.mk.injEq]
    constructor
    · rintro ⟨rfl, rfl⟩
      exact ⟨_, _, _, _, rfl, rfl⟩
    · rintro ⟨c0, c1, c2, c3, h, rfl⟩
      simp_all
  · rename_i hno
    simp only [reduceCtorEq, false_iff]
    rintro ⟨c0, c1, c2, c3, h, -⟩
    exact hno _ _ _ _ _ h

end Sys2Proof
end

