-- ==== Sys2Proof/Laws/State.lean ====
section
/-! SUPPORT. What each write of the state leaves in each field: one lemma per field per write. -/

namespace Sys2Proof.Machine

variable (s : State)

/-! ### setBuf -/

@[simp] theorem State.setBuf_cfg (v : List Byte) : (s.setBuf v).cfg = s.cfg := rfl
@[simp] theorem State.setBuf_buf (v : List Byte) : (s.setBuf v).buf = v := rfl
@[simp] theorem State.setBuf_scanReq (v : List Byte) : (s.setBuf v).scanReq = s.scanReq := rfl
@[simp] theorem State.setBuf_linkState (v : List Byte) : (s.setBuf v).linkState = s.linkState := rfl
@[simp] theorem State.setBuf_sinceFrame (v : List Byte) : (s.setBuf v).sinceFrame = s.sinceFrame := rfl
@[simp] theorem State.setBuf_pending0 (v : List Byte) : (s.setBuf v).pending0 = s.pending0 := rfl
@[simp] theorem State.setBuf_pending1 (v : List Byte) : (s.setBuf v).pending1 = s.pending1 := rfl
@[simp] theorem State.setBuf_lock (v : List Byte) : (s.setBuf v).lock = s.lock := rfl
@[simp] theorem State.setBuf_wrRem (v : List Byte) : (s.setBuf v).wrRem = s.wrRem := rfl
@[simp] theorem State.setBuf_halted (v : List Byte) : (s.setBuf v).halted = s.halted := rfl
@[simp] theorem State.setBuf_outHist0 (v : List Byte) : (s.setBuf v).outHist0 = s.outHist0 := rfl
@[simp] theorem State.setBuf_outHist1 (v : List Byte) : (s.setBuf v).outHist1 = s.outHist1 := rfl
@[simp] theorem State.setBuf_dispHist (v : List Byte) : (s.setBuf v).dispHist = s.dispHist := rfl
@[simp] theorem State.setBuf_serHist (v : List Byte) : (s.setBuf v).serHist = s.serHist := rfl
@[simp] theorem State.setBuf_errHist (v : List Byte) : (s.setBuf v).errHist = s.errHist := rfl
@[simp] theorem State.setBuf_rxPart (v : List Byte) : (s.setBuf v).rxPart = s.rxPart := rfl
@[simp] theorem State.setBuf_dgPart0 (v : List Byte) : (s.setBuf v).dgPart0 = s.dgPart0 := rfl
@[simp] theorem State.setBuf_dgPart1 (v : List Byte) : (s.setBuf v).dgPart1 = s.dgPart1 := rfl
@[simp] theorem State.setBuf_ret (v : List Byte) : (s.setBuf v).ret = s.ret := rfl
@[simp] theorem State.setBuf_agenda (v : List Byte) : (s.setBuf v).agenda = s.agenda := rfl
@[simp] theorem State.setBuf_pending (v : List Byte) (j : SubStream) : (s.setBuf v).pending j = s.pending j := by
  cases j <;> rfl
@[simp] theorem State.setBuf_outHist (v : List Byte) (j : SubStream) : (s.setBuf v).outHist j = s.outHist j := by
  cases j <;> rfl
@[simp] theorem State.setBuf_dgPart (v : List Byte) (j : SubStream) : (s.setBuf v).dgPart j = s.dgPart j := by
  cases j <;> rfl

/-! ### setScanReq -/

@[simp] theorem State.setScanReq_cfg (v : Bool) : (s.setScanReq v).cfg = s.cfg := rfl
@[simp] theorem State.setScanReq_buf (v : Bool) : (s.setScanReq v).buf = s.buf := rfl
@[simp] theorem State.setScanReq_scanReq (v : Bool) : (s.setScanReq v).scanReq = v := rfl
@[simp] theorem State.setScanReq_linkState (v : Bool) : (s.setScanReq v).linkState = s.linkState := rfl
@[simp] theorem State.setScanReq_sinceFrame (v : Bool) : (s.setScanReq v).sinceFrame = s.sinceFrame := rfl
@[simp] theorem State.setScanReq_pending0 (v : Bool) : (s.setScanReq v).pending0 = s.pending0 := rfl
@[simp] theorem State.setScanReq_pending1 (v : Bool) : (s.setScanReq v).pending1 = s.pending1 := rfl
@[simp] theorem State.setScanReq_lock (v : Bool) : (s.setScanReq v).lock = s.lock := rfl
@[simp] theorem State.setScanReq_wrRem (v : Bool) : (s.setScanReq v).wrRem = s.wrRem := rfl
@[simp] theorem State.setScanReq_halted (v : Bool) : (s.setScanReq v).halted = s.halted := rfl
@[simp] theorem State.setScanReq_outHist0 (v : Bool) : (s.setScanReq v).outHist0 = s.outHist0 := rfl
@[simp] theorem State.setScanReq_outHist1 (v : Bool) : (s.setScanReq v).outHist1 = s.outHist1 := rfl
@[simp] theorem State.setScanReq_dispHist (v : Bool) : (s.setScanReq v).dispHist = s.dispHist := rfl
@[simp] theorem State.setScanReq_serHist (v : Bool) : (s.setScanReq v).serHist = s.serHist := rfl
@[simp] theorem State.setScanReq_errHist (v : Bool) : (s.setScanReq v).errHist = s.errHist := rfl
@[simp] theorem State.setScanReq_rxPart (v : Bool) : (s.setScanReq v).rxPart = s.rxPart := rfl
@[simp] theorem State.setScanReq_dgPart0 (v : Bool) : (s.setScanReq v).dgPart0 = s.dgPart0 := rfl
@[simp] theorem State.setScanReq_dgPart1 (v : Bool) : (s.setScanReq v).dgPart1 = s.dgPart1 := rfl
@[simp] theorem State.setScanReq_ret (v : Bool) : (s.setScanReq v).ret = s.ret := rfl
@[simp] theorem State.setScanReq_agenda (v : Bool) : (s.setScanReq v).agenda = s.agenda := rfl
@[simp] theorem State.setScanReq_pending (v : Bool) (j : SubStream) : (s.setScanReq v).pending j = s.pending j := by
  cases j <;> rfl
@[simp] theorem State.setScanReq_outHist (v : Bool) (j : SubStream) : (s.setScanReq v).outHist j = s.outHist j := by
  cases j <;> rfl
@[simp] theorem State.setScanReq_dgPart (v : Bool) (j : SubStream) : (s.setScanReq v).dgPart j = s.dgPart j := by
  cases j <;> rfl

/-! ### setLinkState -/

@[simp] theorem State.setLinkState_cfg (v : LinkState) : (s.setLinkState v).cfg = s.cfg := rfl
@[simp] theorem State.setLinkState_buf (v : LinkState) : (s.setLinkState v).buf = s.buf := rfl
@[simp] theorem State.setLinkState_scanReq (v : LinkState) : (s.setLinkState v).scanReq = s.scanReq := rfl
@[simp] theorem State.setLinkState_linkState (v : LinkState) : (s.setLinkState v).linkState = v := rfl
@[simp] theorem State.setLinkState_sinceFrame (v : LinkState) : (s.setLinkState v).sinceFrame = s.sinceFrame := rfl
@[simp] theorem State.setLinkState_pending0 (v : LinkState) : (s.setLinkState v).pending0 = s.pending0 := rfl
@[simp] theorem State.setLinkState_pending1 (v : LinkState) : (s.setLinkState v).pending1 = s.pending1 := rfl
@[simp] theorem State.setLinkState_lock (v : LinkState) : (s.setLinkState v).lock = s.lock := rfl
@[simp] theorem State.setLinkState_wrRem (v : LinkState) : (s.setLinkState v).wrRem = s.wrRem := rfl
@[simp] theorem State.setLinkState_halted (v : LinkState) : (s.setLinkState v).halted = s.halted := rfl
@[simp] theorem State.setLinkState_outHist0 (v : LinkState) : (s.setLinkState v).outHist0 = s.outHist0 := rfl
@[simp] theorem State.setLinkState_outHist1 (v : LinkState) : (s.setLinkState v).outHist1 = s.outHist1 := rfl
@[simp] theorem State.setLinkState_dispHist (v : LinkState) : (s.setLinkState v).dispHist = s.dispHist := rfl
@[simp] theorem State.setLinkState_serHist (v : LinkState) : (s.setLinkState v).serHist = s.serHist := rfl
@[simp] theorem State.setLinkState_errHist (v : LinkState) : (s.setLinkState v).errHist = s.errHist := rfl
@[simp] theorem State.setLinkState_rxPart (v : LinkState) : (s.setLinkState v).rxPart = s.rxPart := rfl
@[simp] theorem State.setLinkState_dgPart0 (v : LinkState) : (s.setLinkState v).dgPart0 = s.dgPart0 := rfl
@[simp] theorem State.setLinkState_dgPart1 (v : LinkState) : (s.setLinkState v).dgPart1 = s.dgPart1 := rfl
@[simp] theorem State.setLinkState_ret (v : LinkState) : (s.setLinkState v).ret = s.ret := rfl
@[simp] theorem State.setLinkState_agenda (v : LinkState) : (s.setLinkState v).agenda = s.agenda := rfl
@[simp] theorem State.setLinkState_pending (v : LinkState) (j : SubStream) : (s.setLinkState v).pending j = s.pending j := by
  cases j <;> rfl
@[simp] theorem State.setLinkState_outHist (v : LinkState) (j : SubStream) : (s.setLinkState v).outHist j = s.outHist j := by
  cases j <;> rfl
@[simp] theorem State.setLinkState_dgPart (v : LinkState) (j : SubStream) : (s.setLinkState v).dgPart j = s.dgPart j := by
  cases j <;> rfl

/-! ### setSinceFrame -/

@[simp] theorem State.setSinceFrame_cfg (v : Nat) : (s.setSinceFrame v).cfg = s.cfg := rfl
@[simp] theorem State.setSinceFrame_buf (v : Nat) : (s.setSinceFrame v).buf = s.buf := rfl
@[simp] theorem State.setSinceFrame_scanReq (v : Nat) : (s.setSinceFrame v).scanReq = s.scanReq := rfl
@[simp] theorem State.setSinceFrame_linkState (v : Nat) : (s.setSinceFrame v).linkState = s.linkState := rfl
@[simp] theorem State.setSinceFrame_sinceFrame (v : Nat) : (s.setSinceFrame v).sinceFrame = v := rfl
@[simp] theorem State.setSinceFrame_pending0 (v : Nat) : (s.setSinceFrame v).pending0 = s.pending0 := rfl
@[simp] theorem State.setSinceFrame_pending1 (v : Nat) : (s.setSinceFrame v).pending1 = s.pending1 := rfl
@[simp] theorem State.setSinceFrame_lock (v : Nat) : (s.setSinceFrame v).lock = s.lock := rfl
@[simp] theorem State.setSinceFrame_wrRem (v : Nat) : (s.setSinceFrame v).wrRem = s.wrRem := rfl
@[simp] theorem State.setSinceFrame_halted (v : Nat) : (s.setSinceFrame v).halted = s.halted := rfl
@[simp] theorem State.setSinceFrame_outHist0 (v : Nat) : (s.setSinceFrame v).outHist0 = s.outHist0 := rfl
@[simp] theorem State.setSinceFrame_outHist1 (v : Nat) : (s.setSinceFrame v).outHist1 = s.outHist1 := rfl
@[simp] theorem State.setSinceFrame_dispHist (v : Nat) : (s.setSinceFrame v).dispHist = s.dispHist := rfl
@[simp] theorem State.setSinceFrame_serHist (v : Nat) : (s.setSinceFrame v).serHist = s.serHist := rfl
@[simp] theorem State.setSinceFrame_errHist (v : Nat) : (s.setSinceFrame v).errHist = s.errHist := rfl
@[simp] theorem State.setSinceFrame_rxPart (v : Nat) : (s.setSinceFrame v).rxPart = s.rxPart := rfl
@[simp] theorem State.setSinceFrame_dgPart0 (v : Nat) : (s.setSinceFrame v).dgPart0 = s.dgPart0 := rfl
@[simp] theorem State.setSinceFrame_dgPart1 (v : Nat) : (s.setSinceFrame v).dgPart1 = s.dgPart1 := rfl
@[simp] theorem State.setSinceFrame_ret (v : Nat) : (s.setSinceFrame v).ret = s.ret := rfl
@[simp] theorem State.setSinceFrame_agenda (v : Nat) : (s.setSinceFrame v).agenda = s.agenda := rfl
@[simp] theorem State.setSinceFrame_pending (v : Nat) (j : SubStream) : (s.setSinceFrame v).pending j = s.pending j := by
  cases j <;> rfl
@[simp] theorem State.setSinceFrame_outHist (v : Nat) (j : SubStream) : (s.setSinceFrame v).outHist j = s.outHist j := by
  cases j <;> rfl
@[simp] theorem State.setSinceFrame_dgPart (v : Nat) (j : SubStream) : (s.setSinceFrame v).dgPart j = s.dgPart j := by
  cases j <;> rfl

/-! ### setLock -/

@[simp] theorem State.setLock_cfg (v : Option SubStream) : (s.setLock v).cfg = s.cfg := rfl
@[simp] theorem State.setLock_buf (v : Option SubStream) : (s.setLock v).buf = s.buf := rfl
@[simp] theorem State.setLock_scanReq (v : Option SubStream) : (s.setLock v).scanReq = s.scanReq := rfl
@[simp] theorem State.setLock_linkState (v : Option SubStream) : (s.setLock v).linkState = s.linkState := rfl
@[simp] theorem State.setLock_sinceFrame (v : Option SubStream) : (s.setLock v).sinceFrame = s.sinceFrame := rfl
@[simp] theorem State.setLock_pending0 (v : Option SubStream) : (s.setLock v).pending0 = s.pending0 := rfl
@[simp] theorem State.setLock_pending1 (v : Option SubStream) : (s.setLock v).pending1 = s.pending1 := rfl
@[simp] theorem State.setLock_lock (v : Option SubStream) : (s.setLock v).lock = v := rfl
@[simp] theorem State.setLock_wrRem (v : Option SubStream) : (s.setLock v).wrRem = s.wrRem := rfl
@[simp] theorem State.setLock_halted (v : Option SubStream) : (s.setLock v).halted = s.halted := rfl
@[simp] theorem State.setLock_outHist0 (v : Option SubStream) : (s.setLock v).outHist0 = s.outHist0 := rfl
@[simp] theorem State.setLock_outHist1 (v : Option SubStream) : (s.setLock v).outHist1 = s.outHist1 := rfl
@[simp] theorem State.setLock_dispHist (v : Option SubStream) : (s.setLock v).dispHist = s.dispHist := rfl
@[simp] theorem State.setLock_serHist (v : Option SubStream) : (s.setLock v).serHist = s.serHist := rfl
@[simp] theorem State.setLock_errHist (v : Option SubStream) : (s.setLock v).errHist = s.errHist := rfl
@[simp] theorem State.setLock_rxPart (v : Option SubStream) : (s.setLock v).rxPart = s.rxPart := rfl
@[simp] theorem State.setLock_dgPart0 (v : Option SubStream) : (s.setLock v).dgPart0 = s.dgPart0 := rfl
@[simp] theorem State.setLock_dgPart1 (v : Option SubStream) : (s.setLock v).dgPart1 = s.dgPart1 := rfl
@[simp] theorem State.setLock_ret (v : Option SubStream) : (s.setLock v).ret = s.ret := rfl
@[simp] theorem State.setLock_agenda (v : Option SubStream) : (s.setLock v).agenda = s.agenda := rfl
@[simp] theorem State.setLock_pending (v : Option SubStream) (j : SubStream) : (s.setLock v).pending j = s.pending j := by
  cases j <;> rfl
@[simp] theorem State.setLock_outHist (v : Option SubStream) (j : SubStream) : (s.setLock v).outHist j = s.outHist j := by
  cases j <;> rfl
@[simp] theorem State.setLock_dgPart (v : Option SubStream) (j : SubStream) : (s.setLock v).dgPart j = s.dgPart j := by
  cases j <;> rfl

/-! ### setWrRem -/

@[simp] theorem State.setWrRem_cfg (v : List Byte) : (s.setWrRem v).cfg = s.cfg := rfl
@[simp] theorem State.setWrRem_buf (v : List Byte) : (s.setWrRem v).buf = s.buf := rfl
@[simp] theorem State.setWrRem_scanReq (v : List Byte) : (s.setWrRem v).scanReq = s.scanReq := rfl
@[simp] theorem State.setWrRem_linkState (v : List Byte) : (s.setWrRem v).linkState = s.linkState := rfl
@[simp] theorem State.setWrRem_sinceFrame (v : List Byte) : (s.setWrRem v).sinceFrame = s.sinceFrame := rfl
@[simp] theorem State.setWrRem_pending0 (v : List Byte) : (s.setWrRem v).pending0 = s.pending0 := rfl
@[simp] theorem State.setWrRem_pending1 (v : List Byte) : (s.setWrRem v).pending1 = s.pending1 := rfl
@[simp] theorem State.setWrRem_lock (v : List Byte) : (s.setWrRem v).lock = s.lock := rfl
@[simp] theorem State.setWrRem_wrRem (v : List Byte) : (s.setWrRem v).wrRem = v := rfl
@[simp] theorem State.setWrRem_halted (v : List Byte) : (s.setWrRem v).halted = s.halted := rfl
@[simp] theorem State.setWrRem_outHist0 (v : List Byte) : (s.setWrRem v).outHist0 = s.outHist0 := rfl
@[simp] theorem State.setWrRem_outHist1 (v : List Byte) : (s.setWrRem v).outHist1 = s.outHist1 := rfl
@[simp] theorem State.setWrRem_dispHist (v : List Byte) : (s.setWrRem v).dispHist = s.dispHist := rfl
@[simp] theorem State.setWrRem_serHist (v : List Byte) : (s.setWrRem v).serHist = s.serHist := rfl
@[simp] theorem State.setWrRem_errHist (v : List Byte) : (s.setWrRem v).errHist = s.errHist := rfl
@[simp] theorem State.setWrRem_rxPart (v : List Byte) : (s.setWrRem v).rxPart = s.rxPart := rfl
@[simp] theorem State.setWrRem_dgPart0 (v : List Byte) : (s.setWrRem v).dgPart0 = s.dgPart0 := rfl
@[simp] theorem State.setWrRem_dgPart1 (v : List Byte) : (s.setWrRem v).dgPart1 = s.dgPart1 := rfl
@[simp] theorem State.setWrRem_ret (v : List Byte) : (s.setWrRem v).ret = s.ret := rfl
@[simp] theorem State.setWrRem_agenda (v : List Byte) : (s.setWrRem v).agenda = s.agenda := rfl
@[simp] theorem State.setWrRem_pending (v : List Byte) (j : SubStream) : (s.setWrRem v).pending j = s.pending j := by
  cases j <;> rfl
@[simp] theorem State.setWrRem_outHist (v : List Byte) (j : SubStream) : (s.setWrRem v).outHist j = s.outHist j := by
  cases j <;> rfl
@[simp] theorem State.setWrRem_dgPart (v : List Byte) (j : SubStream) : (s.setWrRem v).dgPart j = s.dgPart j := by
  cases j <;> rfl

/-! ### setRet -/

@[simp] theorem State.setRet_cfg (v : CodecResult) : (s.setRet v).cfg = s.cfg := rfl
@[simp] theorem State.setRet_buf (v : CodecResult) : (s.setRet v).buf = s.buf := rfl
@[simp] theorem State.setRet_scanReq (v : CodecResult) : (s.setRet v).scanReq = s.scanReq := rfl
@[simp] theorem State.setRet_linkState (v : CodecResult) : (s.setRet v).linkState = s.linkState := rfl
@[simp] theorem State.setRet_sinceFrame (v : CodecResult) : (s.setRet v).sinceFrame = s.sinceFrame := rfl
@[simp] theorem State.setRet_pending0 (v : CodecResult) : (s.setRet v).pending0 = s.pending0 := rfl
@[simp] theorem State.setRet_pending1 (v : CodecResult) : (s.setRet v).pending1 = s.pending1 := rfl
@[simp] theorem State.setRet_lock (v : CodecResult) : (s.setRet v).lock = s.lock := rfl
@[simp] theorem State.setRet_wrRem (v : CodecResult) : (s.setRet v).wrRem = s.wrRem := rfl
@[simp] theorem State.setRet_halted (v : CodecResult) : (s.setRet v).halted = s.halted := rfl
@[simp] theorem State.setRet_outHist0 (v : CodecResult) : (s.setRet v).outHist0 = s.outHist0 := rfl
@[simp] theorem State.setRet_outHist1 (v : CodecResult) : (s.setRet v).outHist1 = s.outHist1 := rfl
@[simp] theorem State.setRet_dispHist (v : CodecResult) : (s.setRet v).dispHist = s.dispHist := rfl
@[simp] theorem State.setRet_serHist (v : CodecResult) : (s.setRet v).serHist = s.serHist := rfl
@[simp] theorem State.setRet_errHist (v : CodecResult) : (s.setRet v).errHist = s.errHist := rfl
@[simp] theorem State.setRet_rxPart (v : CodecResult) : (s.setRet v).rxPart = s.rxPart := rfl
@[simp] theorem State.setRet_dgPart0 (v : CodecResult) : (s.setRet v).dgPart0 = s.dgPart0 := rfl
@[simp] theorem State.setRet_dgPart1 (v : CodecResult) : (s.setRet v).dgPart1 = s.dgPart1 := rfl
@[simp] theorem State.setRet_ret (v : CodecResult) : (s.setRet v).ret = some v := rfl
@[simp] theorem State.setRet_agenda (v : CodecResult) : (s.setRet v).agenda = s.agenda := rfl
@[simp] theorem State.setRet_pending (v : CodecResult) (j : SubStream) : (s.setRet v).pending j = s.pending j := by
  cases j <;> rfl
@[simp] theorem State.setRet_outHist (v : CodecResult) (j : SubStream) : (s.setRet v).outHist j = s.outHist j := by
  cases j <;> rfl
@[simp] theorem State.setRet_dgPart (v : CodecResult) (j : SubStream) : (s.setRet v).dgPart j = s.dgPart j := by
  cases j <;> rfl

/-! ### setAgenda -/

@[simp] theorem State.setAgenda_cfg (v : List (List Event)) : (s.setAgenda v).cfg = s.cfg := rfl
@[simp] theorem State.setAgenda_buf (v : List (List Event)) : (s.setAgenda v).buf = s.buf := rfl
@[simp] theorem State.setAgenda_scanReq (v : List (List Event)) : (s.setAgenda v).scanReq = s.scanReq := rfl
@[simp] theorem State.setAgenda_linkState (v : List (List Event)) : (s.setAgenda v).linkState = s.linkState := rfl
@[simp] theorem State.setAgenda_sinceFrame (v : List (List Event)) : (s.setAgenda v).sinceFrame = s.sinceFrame := rfl
@[simp] theorem State.setAgenda_pending0 (v : List (List Event)) : (s.setAgenda v).pending0 = s.pending0 := rfl
@[simp] theorem State.setAgenda_pending1 (v : List (List Event)) : (s.setAgenda v).pending1 = s.pending1 := rfl
@[simp] theorem State.setAgenda_lock (v : List (List Event)) : (s.setAgenda v).lock = s.lock := rfl
@[simp] theorem State.setAgenda_wrRem (v : List (List Event)) : (s.setAgenda v).wrRem = s.wrRem := rfl
@[simp] theorem State.setAgenda_halted (v : List (List Event)) : (s.setAgenda v).halted = s.halted := rfl
@[simp] theorem State.setAgenda_outHist0 (v : List (List Event)) : (s.setAgenda v).outHist0 = s.outHist0 := rfl
@[simp] theorem State.setAgenda_outHist1 (v : List (List Event)) : (s.setAgenda v).outHist1 = s.outHist1 := rfl
@[simp] theorem State.setAgenda_dispHist (v : List (List Event)) : (s.setAgenda v).dispHist = s.dispHist := rfl
@[simp] theorem State.setAgenda_serHist (v : List (List Event)) : (s.setAgenda v).serHist = s.serHist := rfl
@[simp] theorem State.setAgenda_errHist (v : List (List Event)) : (s.setAgenda v).errHist = s.errHist := rfl
@[simp] theorem State.setAgenda_rxPart (v : List (List Event)) : (s.setAgenda v).rxPart = s.rxPart := rfl
@[simp] theorem State.setAgenda_dgPart0 (v : List (List Event)) : (s.setAgenda v).dgPart0 = s.dgPart0 := rfl
@[simp] theorem State.setAgenda_dgPart1 (v : List (List Event)) : (s.setAgenda v).dgPart1 = s.dgPart1 := rfl
@[simp] theorem State.setAgenda_ret (v : List (List Event)) : (s.setAgenda v).ret = s.ret := rfl
@[simp] theorem State.setAgenda_agenda (v : List (List Event)) : (s.setAgenda v).agenda = v := rfl
@[simp] theorem State.setAgenda_pending (v : List (List Event)) (j : SubStream) : (s.setAgenda v).pending j = s.pending j := by
  cases j <;> rfl
@[simp] theorem State.setAgenda_outHist (v : List (List Event)) (j : SubStream) : (s.setAgenda v).outHist j = s.outHist j := by
  cases j <;> rfl

/-! ### setTimeout -/

@[simp] theorem State.setTimeout_cfg (t : Nat) : (s.setTimeout t).cfg = { s.cfg with timeout := t } := rfl
@[simp] theorem State.setTimeout_buf (t : Nat) : (s.setTimeout t).buf = s.buf := rfl
@[simp] theorem State.setTimeout_scanReq (t : Nat) : (s.setTimeout t).scanReq = s.scanReq := rfl
@[simp] theorem State.setTimeout_linkState (t : Nat) : (s.setTimeout t).linkState = s.linkState := rfl
@[simp] theorem State.setTimeout_sinceFrame (t : Nat) : (s.setTimeout t).sinceFrame = s.sinceFrame := rfl
@[simp] theorem State.setTimeout_pending0 (t : Nat) : (s.setTimeout t).pending0 = s.pending0 := rfl
@[simp] theorem State.setTimeout_pending1 (t : Nat) : (s.setTimeout t).pending1 = s.pending1 := rfl
@[simp] theorem State.setTimeout_lock (t : Nat) : (s.setTimeout t).lock = s.lock := rfl
@[simp] theorem State.setTimeout_wrRem (t : Nat) : (s.setTimeout t).wrRem = s.wrRem := rfl
@[simp] theorem State.setTimeout_halted (t : Nat) : (s.setTimeout t).halted = s.halted := rfl
@[simp] theorem State.setTimeout_outHist0 (t : Nat) : (s.setTimeout t).outHist0 = s.outHist0 := rfl
@[simp] theorem State.setTimeout_outHist1 (t : Nat) : (s.setTimeout t).outHist1 = s.outHist1 := rfl
@[simp] theorem State.setTimeout_dispHist (t : Nat) : (s.setTimeout t).dispHist = s.dispHist := rfl
@[simp] theorem State.setTimeout_serHist (t : Nat) : (s.setTimeout t).serHist = s.serHist := rfl
@[simp] theorem State.setTimeout_errHist (t : Nat) : (s.setTimeout t).errHist = s.errHist := rfl
@[simp] theorem State.setTimeout_rxPart (t : Nat) : (s.setTimeout t).rxPart = s.rxPart := rfl
@[simp] theorem State.setTimeout_dgPart0 (t : Nat) : (s.setTimeout t).dgPart0 = s.dgPart0 := rfl
@[simp] theorem State.setTimeout_dgPart1 (t : Nat) : (s.setTimeout t).dgPart1 = s.dgPart1 := rfl
@[simp] theorem State.setTimeout_ret (t : Nat) : (s.setTimeout t).ret = s.ret := rfl
@[simp] theorem State.setTimeout_agenda (t : Nat) : (s.setTimeout t).agenda = s.agenda := rfl
@[simp] theorem State.setTimeout_pending (t : Nat) (j : SubStream) : (s.setTimeout t).pending j = s.pending j := by
  cases j <;> rfl
@[simp] theorem State.setTimeout_outHist (t : Nat) (j : SubStream) : (s.setTimeout t).outHist j = s.outHist j := by
  cases j <;> rfl
@[simp] theorem State.setTimeout_dgPart (t : Nat) (j : SubStream) : (s.setTimeout t).dgPart j = s.dgPart j := by
  cases j <;> rfl

/-! ### serOut -/

@[simp] theorem State.serOut_cfg (b : Byte) : (s.serOut b).cfg = s.cfg := rfl
@[simp] theorem State.serOut_buf (b : Byte) : (s.serOut b).buf = s.buf := rfl
@[simp] theorem State.serOut_scanReq (b : Byte) : (s.serOut b).scanReq = s.scanReq := rfl
@[simp] theorem State.serOut_linkState (b : Byte) : (s.serOut b).linkState = s.linkState := rfl
@[simp] theorem State.serOut_sinceFrame (b : Byte) : (s.serOut b).sinceFrame = s.sinceFrame := rfl
@[simp] theorem State.serOut_pending0 (b : Byte) : (s.serOut b).pending0 = s.pending0 := rfl
@[simp] theorem State.serOut_pending1 (b : Byte) : (s.serOut b).pending1 = s.pending1 := rfl
@[simp] theorem State.serOut_lock (b : Byte) : (s.serOut b).lock = s.lock := rfl
@[simp] theorem State.serOut_wrRem (b : Byte) : (s.serOut b).wrRem = s.wrRem := rfl
@[simp] theorem State.serOut_halted (b : Byte) : (s.serOut b).halted = s.halted := rfl
@[simp] theorem State.serOut_outHist0 (b : Byte) : (s.serOut b).outHist0 = s.outHist0 := rfl
@[simp] theorem State.serOut_outHist1 (b : Byte) : (s.serOut b).outHist1 = s.outHist1 := rfl
@[simp] theorem State.serOut_dispHist (b : Byte) : (s.serOut b).dispHist = s.dispHist := rfl
@[simp] theorem State.serOut_serHist (b : Byte) : (s.serOut b).serHist = s.serHist ++ [b] := rfl
@[simp] theorem State.serOut_errHist (b : Byte) : (s.serOut b).errHist = s.errHist := rfl
@[simp] theorem State.serOut_rxPart (b : Byte) : (s.serOut b).rxPart = s.rxPart := rfl
@[simp] theorem State.serOut_dgPart0 (b : Byte) : (s.serOut b).dgPart0 = s.dgPart0 := rfl
@[simp] theorem State.serOut_dgPart1 (b : Byte) : (s.serOut b).dgPart1 = s.dgPart1 := rfl
@[simp] theorem State.serOut_ret (b : Byte) : (s.serOut b).ret = s.ret := rfl
@[simp] theorem State.serOut_agenda (b : Byte) : (s.serOut b).agenda = s.agenda := rfl
@[simp] theorem State.serOut_pending (b : Byte) (j : SubStream) : (s.serOut b).pending j = s.pending j := by
  cases j <;> rfl
@[simp] theorem State.serOut_outHist (b : Byte) (j : SubStream) : (s.serOut b).outHist j = s.outHist j := by
  cases j <;> rfl
@[simp] theorem State.serOut_dgPart (b : Byte) (j : SubStream) : (s.serOut b).dgPart j = s.dgPart j := by
  cases j <;> rfl

/-! ### report -/

@[simp] theorem State.report_cfg (c : ErrorCode) (k : Option SubStream) : (s.report c k).cfg = s.cfg := rfl
@[simp] theorem State.report_buf (c : ErrorCode) (k : Option SubStream) : (s.report c k).buf = s.buf := rfl
@[simp] theorem State.report_scanReq (c : ErrorCode) (k : Option SubStream) : (s.report c k).scanReq = s.scanReq := rfl
@[simp] theorem State.report_linkState (c : ErrorCode) (k : Option SubStream) : (s.report c k).linkState = s.linkState := rfl
@[simp] theorem State.report_sinceFrame (c : ErrorCode) (k : Option SubStream) : (s.report c k).sinceFrame = s.sinceFrame := rfl
@[simp] theorem State.report_pending0 (c : ErrorCode) (k : Option SubStream) : (s.report c k).pending0 = s.pending0 := rfl
@[simp] theorem State.report_pending1 (c : ErrorCode) (k : Option SubStream) : (s.report c k).pending1 = s.pending1 := rfl
@[simp] theorem State.report_lock (c : ErrorCode) (k : Option SubStream) : (s.report c k).lock = s.lock := rfl
@[simp] theorem State.report_wrRem (c : ErrorCode) (k : Option SubStream) : (s.report c k).wrRem = s.wrRem := rfl
@[simp] theorem State.report_halted (c : ErrorCode) (k : Option SubStream) : (s.report c k).halted = s.halted := rfl
@[simp] theorem State.report_outHist0 (c : ErrorCode) (k : Option SubStream) : (s.report c k).outHist0 = s.outHist0 := rfl
@[simp] theorem State.report_outHist1 (c : ErrorCode) (k : Option SubStream) : (s.report c k).outHist1 = s.outHist1 := rfl
@[simp] theorem State.report_dispHist (c : ErrorCode) (k : Option SubStream) : (s.report c k).dispHist = s.dispHist := rfl
@[simp] theorem State.report_serHist (c : ErrorCode) (k : Option SubStream) : (s.report c k).serHist = s.serHist := rfl
@[simp] theorem State.report_errHist (c : ErrorCode) (k : Option SubStream) : (s.report c k).errHist = s.errHist ++ [{ code := c, port := k }] := rfl
@[simp] theorem State.report_rxPart (c : ErrorCode) (k : Option SubStream) : (s.report c k).rxPart = s.rxPart := rfl
@[simp] theorem State.report_dgPart0 (c : ErrorCode) (k : Option SubStream) : (s.report c k).dgPart0 = s.dgPart0 := rfl
@[simp] theorem State.report_dgPart1 (c : ErrorCode) (k : Option SubStream) : (s.report c k).dgPart1 = s.dgPart1 := rfl
@[simp] theorem State.report_ret (c : ErrorCode) (k : Option SubStream) : (s.report c k).ret = s.ret := rfl
@[simp] theorem State.report_agenda (c : ErrorCode) (k : Option SubStream) : (s.report c k).agenda = s.agenda := rfl
@[simp] theorem State.report_pending (c : ErrorCode) (k : Option SubStream) (j : SubStream) : (s.report c k).pending j = s.pending j := by
  cases j <;> rfl
@[simp] theorem State.report_outHist (c : ErrorCode) (k : Option SubStream) (j : SubStream) : (s.report c k).outHist j = s.outHist j := by
  cases j <;> rfl
@[simp] theorem State.report_dgPart (c : ErrorCode) (k : Option SubStream) (j : SubStream) : (s.report c k).dgPart j = s.dgPart j := by
  cases j <;> rfl

/-! ### raiseHalt -/

@[simp] theorem State.raiseHalt_cfg : (s.raiseHalt).cfg = s.cfg := rfl
@[simp] theorem State.raiseHalt_buf : (s.raiseHalt).buf = s.buf := rfl
@[simp] theorem State.raiseHalt_scanReq : (s.raiseHalt).scanReq = s.scanReq := rfl
@[simp] theorem State.raiseHalt_linkState : (s.raiseHalt).linkState = s.linkState := rfl
@[simp] theorem State.raiseHalt_sinceFrame : (s.raiseHalt).sinceFrame = s.sinceFrame := rfl
@[simp] theorem State.raiseHalt_pending0 : (s.raiseHalt).pending0 = s.pending0 := rfl
@[simp] theorem State.raiseHalt_pending1 : (s.raiseHalt).pending1 = s.pending1 := rfl
@[simp] theorem State.raiseHalt_lock : (s.raiseHalt).lock = s.lock := rfl
@[simp] theorem State.raiseHalt_wrRem : (s.raiseHalt).wrRem = s.wrRem := rfl
@[simp] theorem State.raiseHalt_halted : (s.raiseHalt).halted = true := rfl
@[simp] theorem State.raiseHalt_outHist0 : (s.raiseHalt).outHist0 = s.outHist0 := rfl
@[simp] theorem State.raiseHalt_outHist1 : (s.raiseHalt).outHist1 = s.outHist1 := rfl
@[simp] theorem State.raiseHalt_dispHist : (s.raiseHalt).dispHist = s.dispHist := rfl
@[simp] theorem State.raiseHalt_serHist : (s.raiseHalt).serHist = s.serHist := rfl
@[simp] theorem State.raiseHalt_errHist : (s.raiseHalt).errHist = s.errHist := rfl
@[simp] theorem State.raiseHalt_rxPart : (s.raiseHalt).rxPart = s.rxPart := rfl
@[simp] theorem State.raiseHalt_dgPart0 : (s.raiseHalt).dgPart0 = s.dgPart0 := rfl
@[simp] theorem State.raiseHalt_dgPart1 : (s.raiseHalt).dgPart1 = s.dgPart1 := rfl
@[simp] theorem State.raiseHalt_ret : (s.raiseHalt).ret = s.ret := rfl
@[simp] theorem State.raiseHalt_agenda : (s.raiseHalt).agenda = s.agenda := rfl
@[simp] theorem State.raiseHalt_pending (j : SubStream) : (s.raiseHalt).pending j = s.pending j := by
  cases j <;> rfl
@[simp] theorem State.raiseHalt_outHist (j : SubStream) : (s.raiseHalt).outHist j = s.outHist j := by
  cases j <;> rfl
@[simp] theorem State.raiseHalt_dgPart (j : SubStream) : (s.raiseHalt).dgPart j = s.dgPart j := by
  cases j <;> rfl

/-! ### clear -/

@[simp] theorem State.clear_cfg : (s.clear).cfg = s.cfg := rfl
@[simp] theorem State.clear_buf : (s.clear).buf = [] := rfl
@[simp] theorem State.clear_scanReq : (s.clear).scanReq = false := rfl
@[simp] theorem State.clear_linkState : (s.clear).linkState = .framed := rfl
@[simp] theorem State.clear_sinceFrame : (s.clear).sinceFrame = 0 := rfl
@[simp] theorem State.clear_pending0 : (s.clear).pending0 = none := rfl
@[simp] theorem State.clear_pending1 : (s.clear).pending1 = none := rfl
@[simp] theorem State.clear_lock : (s.clear).lock = none := rfl
@[simp] theorem State.clear_wrRem : (s.clear).wrRem = [] := rfl
@[simp] theorem State.clear_halted : (s.clear).halted = false := rfl
@[simp] theorem State.clear_outHist0 : (s.clear).outHist0 = s.outHist0 := rfl
@[simp] theorem State.clear_outHist1 : (s.clear).outHist1 = s.outHist1 := rfl
@[simp] theorem State.clear_dgPart (j : SubStream) : s.clear.dgPart j = [] := by cases j <;> rfl
@[simp] theorem State.clear_dispHist : (s.clear).dispHist = s.dispHist := rfl
@[simp] theorem State.clear_serHist : (s.clear).serHist = s.serHist := rfl
@[simp] theorem State.clear_errHist : (s.clear).errHist = s.errHist := rfl
@[simp] theorem State.clear_rxPart : (s.clear).rxPart = [] := rfl
@[simp] theorem State.clear_dgPart0 : (s.clear).dgPart0 = [] := rfl
@[simp] theorem State.clear_dgPart1 : (s.clear).dgPart1 = [] := rfl
@[simp] theorem State.clear_ret : (s.clear).ret = s.ret := rfl
@[simp] theorem State.clear_agenda : (s.clear).agenda = s.agenda := rfl
@[simp] theorem State.clear_pending (j : SubStream) : s.clear.pending j = none := by cases j <;> rfl
@[simp] theorem State.clear_outHist (j : SubStream) : (s.clear).outHist j = s.outHist j := by
  cases j <;> rfl

/-! ### setRxPart -/

@[simp] theorem State.setRxPart_cfg (v : List Byte) : (s.setRxPart v).cfg = s.cfg := rfl
@[simp] theorem State.setRxPart_buf (v : List Byte) : (s.setRxPart v).buf = s.buf := rfl
@[simp] theorem State.setRxPart_scanReq (v : List Byte) : (s.setRxPart v).scanReq = s.scanReq := rfl
@[simp] theorem State.setRxPart_linkState (v : List Byte) : (s.setRxPart v).linkState = s.linkState := rfl
@[simp] theorem State.setRxPart_sinceFrame (v : List Byte) : (s.setRxPart v).sinceFrame = s.sinceFrame := rfl
@[simp] theorem State.setRxPart_pending0 (v : List Byte) : (s.setRxPart v).pending0 = s.pending0 := rfl
@[simp] theorem State.setRxPart_pending1 (v : List Byte) : (s.setRxPart v).pending1 = s.pending1 := rfl
@[simp] theorem State.setRxPart_lock (v : List Byte) : (s.setRxPart v).lock = s.lock := rfl
@[simp] theorem State.setRxPart_wrRem (v : List Byte) : (s.setRxPart v).wrRem = s.wrRem := rfl
@[simp] theorem State.setRxPart_halted (v : List Byte) : (s.setRxPart v).halted = s.halted := rfl
@[simp] theorem State.setRxPart_outHist0 (v : List Byte) : (s.setRxPart v).outHist0 = s.outHist0 := rfl
@[simp] theorem State.setRxPart_outHist1 (v : List Byte) : (s.setRxPart v).outHist1 = s.outHist1 := rfl
@[simp] theorem State.setRxPart_dispHist (v : List Byte) : (s.setRxPart v).dispHist = s.dispHist := rfl
@[simp] theorem State.setRxPart_serHist (v : List Byte) : (s.setRxPart v).serHist = s.serHist := rfl
@[simp] theorem State.setRxPart_errHist (v : List Byte) : (s.setRxPart v).errHist = s.errHist := rfl
@[simp] theorem State.setRxPart_rxPart (v : List Byte) : (s.setRxPart v).rxPart = v := rfl
@[simp] theorem State.setRxPart_dgPart0 (v : List Byte) : (s.setRxPart v).dgPart0 = s.dgPart0 := rfl
@[simp] theorem State.setRxPart_dgPart1 (v : List Byte) : (s.setRxPart v).dgPart1 = s.dgPart1 := rfl
@[simp] theorem State.setRxPart_ret (v : List Byte) : (s.setRxPart v).ret = s.ret := rfl
@[simp] theorem State.setRxPart_agenda (v : List Byte) : (s.setRxPart v).agenda = s.agenda := rfl
@[simp] theorem State.setRxPart_pending (v : List Byte) (j : SubStream) : (s.setRxPart v).pending j = s.pending j := by
  cases j <;> rfl
@[simp] theorem State.setRxPart_outHist (v : List Byte) (j : SubStream) : (s.setRxPart v).outHist j = s.outHist j := by
  cases j <;> rfl
@[simp] theorem State.setRxPart_dgPart (v : List Byte) (j : SubStream) : (s.setRxPart v).dgPart j = s.dgPart j := by
  cases j <;> rfl
/-- With no chunk in transfer, holding none changes nothing. -/
theorem State.setRxPart_eq_self (h : s.rxPart = []) : s.setRxPart [] = s := by
  cases s
  cases h
  rfl

/-! ### setDgPart: the port decides which element is written -/

@[simp] theorem State.setDgPart_cfg (k : SubStream) (v : List Byte) : (s.setDgPart k v).cfg = s.cfg := by
  cases k <;> rfl
@[simp] theorem State.setDgPart_buf (k : SubStream) (v : List Byte) : (s.setDgPart k v).buf = s.buf := by
  cases k <;> rfl
@[simp] theorem State.setDgPart_scanReq (k : SubStream) (v : List Byte) : (s.setDgPart k v).scanReq = s.scanReq := by
  cases k <;> rfl
@[simp] theorem State.setDgPart_linkState (k : SubStream) (v : List Byte) : (s.setDgPart k v).linkState = s.linkState := by
  cases k <;> rfl
@[simp] theorem State.setDgPart_sinceFrame (k : SubStream) (v : List Byte) : (s.setDgPart k v).sinceFrame = s.sinceFrame := by
  cases k <;> rfl
@[simp] theorem State.setDgPart_pending0 (k : SubStream) (v : List Byte) : (s.setDgPart k v).pending0 = s.pending0 := by
  cases k <;> rfl
@[simp] theorem State.setDgPart_pending1 (k : SubStream) (v : List Byte) : (s.setDgPart k v).pending1 = s.pending1 := by
  cases k <;> rfl
@[simp] theorem State.setDgPart_lock (k : SubStream) (v : List Byte) : (s.setDgPart k v).lock = s.lock := by
  cases k <;> rfl
@[simp] theorem State.setDgPart_wrRem (k : SubStream) (v : List Byte) : (s.setDgPart k v).wrRem = s.wrRem := by
  cases k <;> rfl
@[simp] theorem State.setDgPart_halted (k : SubStream) (v : List Byte) : (s.setDgPart k v).halted = s.halted := by
  cases k <;> rfl
@[simp] theorem State.setDgPart_outHist0 (k : SubStream) (v : List Byte) : (s.setDgPart k v).outHist0 = s.outHist0 := by
  cases k <;> rfl
@[simp] theorem State.setDgPart_outHist1 (k : SubStream) (v : List Byte) : (s.setDgPart k v).outHist1 = s.outHist1 := by
  cases k <;> rfl
@[simp] theorem State.setDgPart_dispHist (k : SubStream) (v : List Byte) : (s.setDgPart k v).dispHist = s.dispHist := by
  cases k <;> rfl
@[simp] theorem State.setDgPart_serHist (k : SubStream) (v : List Byte) : (s.setDgPart k v).serHist = s.serHist := by
  cases k <;> rfl
@[simp] theorem State.setDgPart_errHist (k : SubStream) (v : List Byte) : (s.setDgPart k v).errHist = s.errHist := by
  cases k <;> rfl
@[simp] theorem State.setDgPart_rxPart (k : SubStream) (v : List Byte) : (s.setDgPart k v).rxPart = s.rxPart := by
  cases k <;> rfl
@[simp] theorem State.setDgPart_ret (k : SubStream) (v : List Byte) : (s.setDgPart k v).ret = s.ret := by
  cases k <;> rfl
@[simp] theorem State.setDgPart_agenda (k : SubStream) (v : List Byte) : (s.setDgPart k v).agenda = s.agenda := by
  cases k <;> rfl
@[simp] theorem State.setDgPart_dgPart_self (k : SubStream) (v : List Byte) :
    (s.setDgPart k v).dgPart k = v := by cases k <;> rfl
theorem State.setDgPart_dgPart (k j : SubStream) (v : List Byte) :
    (s.setDgPart k v).dgPart j = if j = k then v else s.dgPart j := by cases k <;> cases j <;> rfl
@[simp] theorem State.setDgPart_setDgPart (k : SubStream) (v w : List Byte) :
    (s.setDgPart k v).setDgPart k w = s.setDgPart k w := by cases k <;> rfl
@[simp] theorem State.setDgPart_pending (k j : SubStream) (v : List Byte) :
    (s.setDgPart k v).pending j = s.pending j := by cases k <;> cases j <;> rfl
@[simp] theorem State.setDgPart_outHist (k j : SubStream) (v : List Byte) :
    (s.setDgPart k v).outHist j = s.outHist j := by cases k <;> cases j <;> rfl
/-- With no packet in transfer on the port, holding none changes nothing. -/
theorem State.setDgPart_eq_self (k : SubStream) (h : s.dgPart k = []) : s.setDgPart k [] = s := by
  cases k <;> cases s <;> cases h <;> rfl

/-! ### setPending: the port decides which element is written -/

@[simp] theorem State.setPending_cfg (k : SubStream) (v : Option (List Byte)) : (s.setPending k v).cfg = s.cfg := by
  cases k <;> rfl
@[simp] theorem State.setPending_buf (k : SubStream) (v : Option (List Byte)) : (s.setPending k v).buf = s.buf := by
  cases k <;> rfl
@[simp] theorem State.setPending_scanReq (k : SubStream) (v : Option (List Byte)) : (s.setPending k v).scanReq = s.scanReq := by
  cases k <;> rfl
@[simp] theorem State.setPending_linkState (k : SubStream) (v : Option (List Byte)) : (s.setPending k v).linkState = s.linkState := by
  cases k <;> rfl
@[simp] theorem State.setPending_sinceFrame (k : SubStream) (v : Option (List Byte)) : (s.setPending k v).sinceFrame = s.sinceFrame := by
  cases k <;> rfl
@[simp] theorem State.setPending_lock (k : SubStream) (v : Option (List Byte)) : (s.setPending k v).lock = s.lock := by
  cases k <;> rfl
@[simp] theorem State.setPending_wrRem (k : SubStream) (v : Option (List Byte)) : (s.setPending k v).wrRem = s.wrRem := by
  cases k <;> rfl
@[simp] theorem State.setPending_halted (k : SubStream) (v : Option (List Byte)) : (s.setPending k v).halted = s.halted := by
  cases k <;> rfl
@[simp] theorem State.setPending_outHist0 (k : SubStream) (v : Option (List Byte)) : (s.setPending k v).outHist0 = s.outHist0 := by
  cases k <;> rfl
@[simp] theorem State.setPending_dgPart (k j : SubStream) (v : Option (List Byte)) :
    (s.setPending k v).dgPart j = s.dgPart j := by cases k <;> cases j <;> rfl
@[simp] theorem State.setPending_outHist1 (k : SubStream) (v : Option (List Byte)) : (s.setPending k v).outHist1 = s.outHist1 := by
  cases k <;> rfl
@[simp] theorem State.setPending_dispHist (k : SubStream) (v : Option (List Byte)) : (s.setPending k v).dispHist = s.dispHist := by
  cases k <;> rfl
@[simp] theorem State.setPending_serHist (k : SubStream) (v : Option (List Byte)) : (s.setPending k v).serHist = s.serHist := by
  cases k <;> rfl
@[simp] theorem State.setPending_errHist (k : SubStream) (v : Option (List Byte)) : (s.setPending k v).errHist = s.errHist := by
  cases k <;> rfl
@[simp] theorem State.setPending_rxPart (k : SubStream) (v : Option (List Byte)) : (s.setPending k v).rxPart = s.rxPart := by
  cases k <;> rfl
@[simp] theorem State.setPending_dgPart0 (k : SubStream) (v : Option (List Byte)) : (s.setPending k v).dgPart0 = s.dgPart0 := by
  cases k <;> rfl
@[simp] theorem State.setPending_dgPart1 (k : SubStream) (v : Option (List Byte)) : (s.setPending k v).dgPart1 = s.dgPart1 := by
  cases k <;> rfl
@[simp] theorem State.setPending_ret (k : SubStream) (v : Option (List Byte)) : (s.setPending k v).ret = s.ret := by
  cases k <;> rfl
@[simp] theorem State.setPending_agenda (k : SubStream) (v : Option (List Byte)) : (s.setPending k v).agenda = s.agenda := by
  cases k <;> rfl
@[simp] theorem State.setPending_pending_self (k : SubStream) (v : Option (List Byte)) :
    (s.setPending k v).pending k = v := by cases k <;> rfl
theorem State.setPending_pending (k j : SubStream) (v : Option (List Byte)) :
    (s.setPending k v).pending j = if j = k then v else s.pending j := by cases k <;> cases j <;> rfl
@[simp] theorem State.setPending_outHist (k j : SubStream) (v : Option (List Byte)) :
    (s.setPending k v).outHist j = s.outHist j := by cases k <;> cases j <;> rfl

/-! ### emit: the port decides which element is written -/

@[simp] theorem State.emit_cfg (k : SubStream) (p : List Byte) : (s.emit k p).cfg = s.cfg := by
  cases k <;> rfl
@[simp] theorem State.emit_buf (k : SubStream) (p : List Byte) : (s.emit k p).buf = s.buf := by
  cases k <;> rfl
@[simp] theorem State.emit_scanReq (k : SubStream) (p : List Byte) : (s.emit k p).scanReq = s.scanReq := by
  cases k <;> rfl
@[simp] theorem State.emit_linkState (k : SubStream) (p : List Byte) : (s.emit k p).linkState = s.linkState := by
  cases k <;> rfl
@[simp] theorem State.emit_sinceFrame (k : SubStream) (p : List Byte) : (s.emit k p).sinceFrame = s.sinceFrame := by
  cases k <;> rfl
@[simp] theorem State.emit_pending0 (k : SubStream) (p : List Byte) : (s.emit k p).pending0 = s.pending0 := by
  cases k <;> rfl
@[simp] theorem State.emit_pending1 (k : SubStream) (p : List Byte) : (s.emit k p).pending1 = s.pending1 := by
  cases k <;> rfl
@[simp] theorem State.emit_lock (k : SubStream) (p : List Byte) : (s.emit k p).lock = s.lock := by
  cases k <;> rfl
@[simp] theorem State.emit_wrRem (k : SubStream) (p : List Byte) : (s.emit k p).wrRem = s.wrRem := by
  cases k <;> rfl
@[simp] theorem State.emit_halted (k : SubStream) (p : List Byte) : (s.emit k p).halted = s.halted := by
  cases k <;> rfl
@[simp] theorem State.emit_dispHist (k : SubStream) (p : List Byte) : (s.emit k p).dispHist = s.dispHist ++ [(k, p)] := by
  cases k <;> rfl
@[simp] theorem State.emit_serHist (k : SubStream) (p : List Byte) : (s.emit k p).serHist = s.serHist := by
  cases k <;> rfl
@[simp] theorem State.emit_errHist (k : SubStream) (p : List Byte) : (s.emit k p).errHist = s.errHist := by
  cases k <;> rfl
@[simp] theorem State.emit_rxPart (k : SubStream) (p : List Byte) : (s.emit k p).rxPart = s.rxPart := by
  cases k <;> rfl
@[simp] theorem State.emit_dgPart0 (k : SubStream) (p : List Byte) : (s.emit k p).dgPart0 = s.dgPart0 := by
  cases k <;> rfl
@[simp] theorem State.emit_dgPart1 (k : SubStream) (p : List Byte) : (s.emit k p).dgPart1 = s.dgPart1 := by
  cases k <;> rfl
@[simp] theorem State.emit_ret (k : SubStream) (p : List Byte) : (s.emit k p).ret = s.ret := by
  cases k <;> rfl
@[simp] theorem State.emit_agenda (k : SubStream) (p : List Byte) : (s.emit k p).agenda = s.agenda := by
  cases k <;> rfl
@[simp] theorem State.emit_outHist_self (k : SubStream) (p : List Byte) :
    (s.emit k p).outHist k = s.outHist k ++ [p] := by cases k <;> rfl
theorem State.emit_outHist (k j : SubStream) (p : List Byte) :
    (s.emit k p).outHist j = if j = k then s.outHist j ++ [p] else s.outHist j := by
  cases k <;> cases j <;> rfl
@[simp] theorem State.emit_pending (k j : SubStream) (p : List Byte) :
    (s.emit k p).pending j = s.pending j := by cases k <;> cases j <;> rfl
@[simp] theorem State.emit_dgPart (k j : SubStream) (p : List Byte) :
    (s.emit k p).dgPart j = s.dgPart j := by cases k <;> cases j <;> rfl

/-! ### What the agenda and a transfer do not change -/

@[simp] theorem State.setRxPart_headClass (v : List Byte) : (s.setRxPart v).headClass = s.headClass := rfl
@[simp] theorem State.setRxPart_headHeader (v : List Byte) : (s.setRxPart v).headHeader = s.headHeader := rfl
@[simp] theorem State.setDgPart_headHeader (k : SubStream) (v : List Byte) :
    (s.setDgPart k v).headHeader = s.headHeader := by cases k <;> rfl
@[simp] theorem State.setAgenda_dgPart (v : List (List Event)) (j : SubStream) :
    (s.setAgenda v).dgPart j = s.dgPart j := by cases j <;> rfl

@[simp] theorem State.setAgenda_headClass (v : List (List Event)) : (s.setAgenda v).headClass = s.headClass := rfl
@[simp] theorem State.setAgenda_headHeader (v : List (List Event)) : (s.setAgenda v).headHeader = s.headHeader := rfl
@[simp] theorem State.setAgenda_setAgenda (v w : List (List Event)) :
    (s.setAgenda v).setAgenda w = s.setAgenda w := rfl

end Sys2Proof.Machine
end

