-- ==== Sys2Proof/Laws/Ops.lean ====
section
/-! SUPPORT. What each shared operation can do, said once: the guard of an operation, the reads of the
scan head, the codec's ENCODE, the scan iteration's effects, and the taking of an event. -/

namespace Sys2Proof.Machine

/-! ### The guard -/

/-- All an operation can do: where it answers a next state, the block is live, the guard holds, and the
state is the one the operation names. -/
theorem perform_eq_next_iff {n : String} {s t t' : State} {g : Prop} [Decidable g] :
    perform n s g t = .next t' ↔ s.halted = false ∧ g ∧ t' = t := by
  unfold perform
  split
  · next hh => simp [hh]
  · next hh =>
    rw [Bool.not_eq_true] at hh
    split
    · next hg => simp [hh, hg, eq_comm (a := t')]
    · next hg => simp [hg]

/-- A live operation whose guard holds completes. -/
theorem perform_of_guard {n : String} {s t : State} {g : Prop} [Decidable g]
    (hs : s.halted = false) (hg : g) : perform n s g t = .next t := by
  simp [perform, hs, hg]

/-- A live operation whose guard fails has no step, under its own name. -/
theorem perform_of_not_guard {n : String} {s t : State} {g : Prop} [Decidable g]
    (hs : s.halted = false) (hg : ¬ g) : perform n s g t = .refused (.notEnabled n) := by
  simp [perform, hs, hg]

/-- In the halted state a guarded operation is the fault of the halt. -/
theorem perform_of_halted {n : String} {s t : State} {g : Prop} [Decidable g]
    (hs : s.halted = true) : perform n s g t = .fault .linkIoError := by
  simp [perform, hs]

/-! ### The scan head -/

/-- Four bytes are buffered exactly when the scan head has a class. -/
theorem headClass_eq_some_iff (s : State) (i : Instr) :
    s.headClass = some i ↔
      ∃ b0 b1 b2 b3 rest, s.buf = b0 :: b1 :: b2 :: b3 :: rest ∧ i = decodeWindow b0 b1 b2 b3 := by
  unfold State.headClass
  cases h : decode s.buf with
  | ok r =>
    obtain ⟨j, rest⟩ := r
    obtain ⟨b0, b1, b2, b3, hb, rfl⟩ := (decode_eq_ok_iff _ _ _).1 h
    simp only [Option.some.injEq, hb]
    constructor
    · rintro rfl
      exact ⟨_, _, _, _, _, rfl, rfl⟩
    · rintro ⟨c0, c1, c2, c3, rest', hc, rfl⟩
      simp_all
  | error e =>
    simp only [reduceCtorEq, false_iff]
    rintro ⟨b0, b1, b2, b3, rest, hb, -⟩
    simp [decode, hb] at h

/-- The scan head has no class exactly where fewer than 4 bytes are buffered (R71). -/
theorem headClass_eq_none_iff (s : State) : s.headClass = none ↔ s.buf.length < 4 := by
  unfold State.headClass decode
  split
  · next h => split at h <;> simp_all
  · next h =>
    split at h
    · simp_all
    · rename_i hno
      match hb : s.buf with
      | [] => simp
      | [_] => simp
      | [_, _] => simp
      | [_, _, _] => simp
      | b0 :: b1 :: b2 :: b3 :: rest => exact absurd hb (hno _ _ _ _ _)

/-- The scan head holds a header exactly in one of the two header classes (R56). -/
theorem headHeader_eq_some_iff (s : State) (h : Header) :
    s.headHeader = some h ↔
      s.headClass = some (match h.tag with
        | .primary => .hdrPrimary h.len
        | .secondary => .hdrSecondary h.len) := by
  rw [headClass_eq_some_iff]
  unfold State.headHeader
  split
  · next b0 b1 b2 b3 rest hb =>
    rw [decodeHeader_eq_some_iff]
    constructor
    · rintro ⟨h0, h3, rfl⟩
      refine ⟨b0, b1, b2, b3, rest, hb, ?_⟩
      exact ((if_neg (fun c => c h0)).trans ((if_neg (fun c => c h3)).trans rfl)).symm
    · rintro ⟨c0, c1, c2, c3, rest', hc, he⟩
      rw [hb] at hc
      simp only [List.cons.injEq] at hc
      obtain ⟨rfl, rfl, rfl, rfl, -⟩ := hc
      obtain ⟨t, n⟩ := h
      rcases decodeWindow_cases b0 b1 b2 b3 with ⟨-, hw⟩ | ⟨-, -, hw⟩ | ⟨h0, h3, ht, hw⟩ | ⟨h0, h3, ht, hw⟩ <;>
        rw [hw] at he <;> cases t <;> simp_all
  · rename_i hno
    simp only [reduceCtorEq, false_iff]
    rintro ⟨b0, b1, b2, b3, rest, hb, -⟩
    exact hno _ _ _ _ _ hb

/-- A header at the scan head needs 4 buffered bytes. -/
theorem four_le_of_headHeader {s : State} {h : Header} (hh : s.headHeader = some h) :
    4 ≤ s.buf.length := by
  obtain ⟨b0, b1, b2, b3, rest, hb, -⟩ := (headClass_eq_some_iff _ _).1 ((headHeader_eq_some_iff _ _).1 hh)
  simp [hb]

/-- The scan head depends on `buf` alone. -/
theorem headHeader_congr {s t : State} (hb : t.buf = s.buf) : t.headHeader = s.headHeader := by
  simp [State.headHeader, hb]

/-! ### ENCODE, resynchronisation, the codec's bounds -/

/-- All ENCODE can do (R64). -/
theorem encodeHeader_eq_some_iff (p : Params) (t : SubStream) (n : Nat) (bytes : List Byte) :
    encodeHeader p t n = some bytes ↔
      n ≤ 0x7FFF ∧ 4 + n ≤ p.maxFrame ∧ bytes = headerBytes t (BitVec.ofNat 15 n) := by
  unfold encodeHeader
  split
  · simp only [reduceCtorEq, false_iff]
    omega
  · simp only [Option.some.injEq, eq_comm (a := bytes)]
    constructor
    · intro h
      exact ⟨by omega, by omega, h⟩
    · exact fun h => h.2.2

/-- InvalidLength is a length over the field or a frame over `MAX_FRAME` (R64). -/
theorem encodeHeader_eq_none_iff (p : Params) (t : SubStream) (n : Nat) :
    encodeHeader p t n = none ↔ 0x7FFF < n ∨ p.maxFrame < 4 + n := by
  unfold encodeHeader
  split <;> simp_all

/-- A header has 4 bytes (R50). -/
@[simp] theorem headerBytes_length (t : SubStream) (n : Len) : (headerBytes t n).length = 4 := rfl

/-- Resynchronisation gives a shorter buffer (R78). -/
theorem resync_length_lt {b : List Byte} (h : b ≠ []) : (resync b).length < b.length := by
  cases b with
  | nil => exact absurd rfl h
  | cons x tail =>
    have := (List.dropWhile_suffix (l := tail) (fun b => b != magic)).length_le
    simp only [resync, List.length_cons]
    omega

/-- Resynchronisation discards from the head only (R36, R76). -/
theorem resync_suffix (b : List Byte) : resync b <:+ b := by
  cases b with
  | nil => exact List.suffix_refl _
  | cons x tail => exact (List.dropWhile_suffix _).trans (List.suffix_cons _ _)

/-! ### The effects of a scan iteration -/

/-- The latch's next state, field by field (R73). -/
theorem latch_eq (s : State) :
    latch s = (if s.buf.drop 1 = [] then
        { s with linkState := .passthrough, buf := [], scanReq := false }
      else
        { s with linkState := .passthrough, buf := [], scanReq := false,
                 outHist0 := s.outHist0 ++ [s.buf.drop 1],
                 dispHist := s.dispHist ++ [(.primary, s.buf.drop 1)] }) := by
  unfold latch flush
  split <;> rfl

/-- A scan iteration on a header takes one of three ways (R78). -/
theorem scanHeader_cases (s : State) (t : SubStream) (n : Nat) :
    (s.cfg.maxFrame < 4 + n ∧ scanHeader s t n = rejectHeader s) ∨
    (4 + n ≤ s.cfg.maxFrame ∧ s.buf.length < 4 + n ∧ scanHeader s t n = awaitPayload s) ∨
    (4 + n ≤ s.cfg.maxFrame ∧ 4 + n ≤ s.buf.length ∧ scanHeader s t n = dispatchFrame s t n) := by
  unfold scanHeader
  split
  · simp_all
  · split
    · refine .inr (.inl ⟨by omega, by omega, rfl⟩)
    · refine .inr (.inr ⟨by omega, by omega, rfl⟩)

/-- A scan iteration on a window that is no frame takes one of two ways (R78). -/
theorem scanFailure_cases (s : State) :
    (s.TimeoutExpired ∧ scanFailure s = latch s) ∨
    (¬ s.TimeoutExpired ∧ scanFailure s = slideByte s) := by
  unfold scanFailure
  split <;> simp_all

/-! ### The taking of an event -/

/-- All an offer can do: it is taken, or it lapses and the state stands (log 3). -/
theorem attempt_eq_next {i : Instr} {s t : State} (h : attempt i s = .next t) :
    exec i s = .next t ∨ t = s := by
  unfold attempt at h
  split at h
  · simp_all
  · simp_all
  · simp_all
  · cases h

/-- An enabled offer is taken. -/
theorem attempt_of_next {i : Instr} {s t : State} (h : exec i s = .next t) : attempt i s = .next t := by
  simp [attempt, h]

/-- What takes effect in a cycle was offered in it (R114). -/
theorem cycleOrder_subset (cycle : List Event) : ∀ e ∈ cycleOrder cycle, e ∈ cycle := by
  intro e he
  unfold cycleOrder at he
  split at he
  · next e' hf =>
    simp only [List.mem_singleton] at he
    exact he ▸ List.mem_of_find?_eq_some hf
  · split at he
    · next e' hf =>
      simp only [List.mem_singleton] at he
      exact he ▸ List.mem_of_find?_eq_some hf
    · exact he

/-- A cycle of one event is that event. -/
@[simp] theorem cycleOrder_singleton (e : Event) : cycleOrder [e] = [e] := by
  unfold cycleOrder
  cases h : e.isReset <;> cases h' : e.isLinkFault <;> simp [List.find?, h, h']

/-- What a step does with the next cycle, in a valid configuration and a block that is live or waits for
a RESET to come: the first event that takes effect is served (R114, R116). -/
theorem advance_of_runnable {s : State} {cycle : List Event} {later : List (List Event)}
    (hv : s.cfg.Valid) (hs : s.halted = false ∨ resetFollows s.agenda = true)
    (ha : s.agenda = cycle :: later) :
    advance s = match cycleOrder cycle with
      | [] => .next (s.setAgenda later)
      | e :: es => serve e (s.setAgenda (agendaAfter es later)) := by
  have hn : takeNext s = match cycleOrder cycle with
      | [] => .next (s.setAgenda later)
      | e :: es => serve e (s.setAgenda (agendaAfter es later)) := by
    unfold takeNext
    split
    · next h => rw [h] at ha; cases ha
    · next h => rw [h] at ha; cases ha; rfl
  unfold advance
  rw [if_pos hv, if_neg (by rcases hs with h | h <;> simp [h]), hn]

/-- What a step does with a cycle of one event. -/
theorem advance_of_event {s : State} {e : Event} {later : List (List Event)}
    (hv : s.cfg.Valid) (hs : s.halted = false ∨ resetFollows s.agenda = true)
    (ha : s.agenda = [e] :: later) : advance s = serve e (s.setAgenda later) := by
  rw [advance_of_runnable hv hs ha, cycleOrder_singleton]
  rfl

/-- What a step of a live block with a valid configuration does with the next cycle. -/
theorem advance_of_live {s : State} {cycle : List Event} {later : List (List Event)}
    (hv : s.cfg.Valid) (hs : s.halted = false) (ha : s.agenda = cycle :: later) :
    advance s = match cycleOrder cycle with
      | [] => .next (s.setAgenda later)
      | e :: es => serve e (s.setAgenda (agendaAfter es later)) :=
  advance_of_runnable hv (.inl hs) ha

/-- A ready serial port has free space, and no more than the whole buffer (R27). -/
theorem serialRoom_of_ready {s : State} (h : s.serRxReady = true) :
    1 ≤ s.serialRoom ∧ s.serialRoom ≤ s.cfg.bufCap := by
  unfold State.serRxReady at h
  unfold State.serialRoom at h ⊢
  cases hl : s.linkState <;> simp [hl] at h ⊢ <;> omega

/-- All that one beat on `ser_rx` can do: the block stands, or the bytes in transfer change within their
bound and the arrival of a chunk is taken, lapses, or is still to come (R25). -/
theorem serveSerialBeat_eq_next {b : SerialBeat} {s t : State} (h : serveSerialBeat b s = .next t) :
    t = s ∨ ∃ v, (s.rxPart.length < s.cfg.bufCap → v.length < s.cfg.bufCap) ∧
      ((∃ i, exec i (s.setRxPart v) = .next t) ∨ t = s.setRxPart v) := by
  unfold serveSerialBeat at h
  split at h
  · next hr =>
    have hroom := serialRoom_of_ready hr
    split at h
    · refine .inr ⟨_, ?_, (attempt_eq_next h).imp (fun x => ⟨_, x⟩) id⟩
      intro hb
      simp only [List.length_drop, List.length_append, List.length_cons, List.length_nil]
      omega
    · next hc =>
      cases h
      refine .inr ⟨_, ?_, .inr rfl⟩
      intro _
      omega
  · cases h
    exact .inl rfl

/-- All that one beat on `dg_in k` can do: the block stands, or the bytes in transfer change and the
arrival of a packet is taken, lapses, or is still to come (R25). -/
theorem serveDatagramBeat_eq_next {k : SubStream} {b : PacketBeat} {s t : State}
    (h : serveDatagramBeat k b s = .next t) :
    t = s ∨ ∃ v, (∃ i, exec i (s.setDgPart k v) = .next t) ∨ t = s.setDgPart k v := by
  unfold serveDatagramBeat endPacket at h
  split at h
  · split at h
    · cases h
      exact .inr ⟨_, .inr rfl⟩
    · exact .inr ⟨_, (attempt_eq_next h).imp (fun x => ⟨_, x⟩) id⟩
    · exact .inr ⟨_, (attempt_eq_next h).imp (fun x => ⟨_, x⟩) id⟩
    · cases h
  · cases h
    exact .inl rfl

/-- All that serving an event can do: from the state itself, or from one that differs in the bytes of a
transfer, an operation is taken or the state stands; or a reset with a valid timeout is taken (R128). -/
theorem serve_eq_next {e : Event} {s t : State} (h : serve e s = .next t) :
    (∃ u, (u = s ∨ (∃ v, (s.rxPart.length < s.cfg.bufCap → v.length < s.cfg.bufCap) ∧
          u = s.setRxPart v) ∨ ∃ k v, u = s.setDgPart k v) ∧
        ((∃ i, exec i u = .next t) ∨ t = u)) ∨
      ∃ v, (s.setTimeout v).cfg.Valid ∧ t = (s.setTimeout v).clear := by
  cases e with
  | scan => exact .inl ⟨s, .inl rfl, (attempt_eq_next h).imp (fun x => ⟨_, x⟩) id⟩
  | operation i => exact .inl ⟨s, .inl rfl, (attempt_eq_next h).imp (fun x => ⟨_, x⟩) id⟩
  | serialIn c => exact .inl ⟨s, .inl rfl, (attempt_eq_next h).imp (fun x => ⟨_, x⟩) id⟩
  | datagramIn k d => exact .inl ⟨s, .inl rfl, (attempt_eq_next h).imp (fun x => ⟨_, x⟩) id⟩
  | serialBeat b =>
    obtain rfl | ⟨v, hv, ht⟩ := serveSerialBeat_eq_next h
    · exact .inl ⟨t, .inl rfl, .inr rfl⟩
    · exact .inl ⟨_, .inr (.inl ⟨v, hv, rfl⟩), ht⟩
  | datagramBeat k b =>
    obtain rfl | ⟨v, ht⟩ := serveDatagramBeat_eq_next h
    · exact .inl ⟨t, .inl rfl, .inr rfl⟩
    · exact .inl ⟨_, .inr (.inr ⟨k, v, rfl⟩), ht⟩
  | driveTimeout v =>
    simp only [serve, serveTimeout] at h
    split at h
    · cases h
      exact .inl ⟨_, .inl rfl, .inr rfl⟩
    · cases h
  | resetWith v =>
    simp only [serve, serveReset] at h
    split at h
    · next hv =>
      simp only [attempt, exec, execReset, Host.Outcome.next.injEq] at h
      exact .inr ⟨v, hv, h.symm⟩
    · cases h

/-- All a step can do: the configuration is valid, and the block stands with a shorter agenda, or an
event is served with one. -/
theorem advance_eq_next {s t : State} (h : advance s = .next t) :
    s.cfg.Valid ∧ ∃ a, t = s.setAgenda a ∨ ∃ e, serve e (s.setAgenda a) = .next t := by
  unfold advance at h
  split at h
  · next hv =>
    refine ⟨hv, ?_⟩
    split at h
    · cases h
    · unfold takeNext at h
      split at h
      · cases h
        exact ⟨s.agenda, .inl rfl⟩
      · split at h
        · cases h
          exact ⟨_, .inl rfl⟩
        · exact ⟨_, .inr ⟨_, h⟩⟩
  · cases h

end Sys2Proof.Machine
end

