-- ==== Sys2Proof/Laws/PerInstr.lean ====
section
/-! SUPPORT. The family `WindowBytes`: an instruction that has a bit pattern has one of exactly 4 bytes
(spec/30_encoding.md R50, R55); the operations have none (R62). One lemma per constructor. -/

namespace Sys2Proof.Laws.WindowBytes

/-- The bytes of `i`, where it has any, are one 4-byte window. -/
def Statement (i : Instr) : Prop := ∀ bytes, encode i = some bytes → bytes.length = 4

theorem hdrPrimary (len : Len) : Statement (.hdrPrimary len) := by
  intro bytes h
  cases h
  rfl
theorem hdrSecondary (len : Len) : Statement (.hdrSecondary len) := by
  intro bytes h
  cases h
  rfl
theorem nafMagic (b0 b1 b2 b3 : Byte) : Statement (.nafMagic b0 b1 b2 b3) := by
  intro bytes h
  cases h
  rfl
theorem nafChecksum (b1 b2 b3 : Byte) : Statement (.nafChecksum b1 b2 b3) := by
  intro bytes h
  cases h
  rfl
theorem checksum (b0 b1 b2 : Byte) : Statement (.checksum b0 b1 b2) := by
  intro bytes h
  cases h
theorem encode (t : SubStream) (n : Nat) : Statement (.encode t n) := by
  intro bytes h
  cases h
theorem decode (b0 b1 b2 b3 : Byte) : Statement (.decode b0 b1 b2 b3) := by
  intro bytes h
  cases h
theorem rxChunk (c : List Byte) : Statement (.rxChunk c) := by
  intro bytes h
  cases h
theorem parseIdle : Statement .parseIdle := by
  intro bytes h
  cases h
theorem parseSlide : Statement .parseSlide := by
  intro bytes h
  cases h
theorem parseLatch : Statement .parseLatch := by
  intro bytes h
  cases h
theorem parseTooLarge : Statement .parseTooLarge := by
  intro bytes h
  cases h
theorem parseWait : Statement .parseWait := by
  intro bytes h
  cases h
theorem tick : Statement .tick := by
  intro bytes h
  cases h
theorem parseDispatch : Statement .parseDispatch := by
  intro bytes h
  cases h
theorem rawForward (c : List Byte) : Statement (.rawForward c) := by
  intro bytes h
  cases h
theorem dgDropOversize (k : SubStream) (d : List Byte) : Statement (.dgDropOversize k d) := by
  intro bytes h
  cases h
theorem dgDropInvalid (k : SubStream) (d : List Byte) : Statement (.dgDropInvalid k d) := by
  intro bytes h
  cases h
theorem dgFramed (k : SubStream) (d : List Byte) : Statement (.dgFramed k d) := by
  intro bytes h
  cases h
theorem dgRaw (d : List Byte) : Statement (.dgRaw d) := by
  intro bytes h
  cases h
theorem acquire (k : SubStream) : Statement (.acquire k) := by
  intro bytes h
  cases h
theorem txByte : Statement .txByte := by
  intro bytes h
  cases h
theorem linkFault : Statement .linkFault := by
  intro bytes h
  cases h
theorem reset : Statement .reset := by
  intro bytes h
  cases h

end Sys2Proof.Laws.WindowBytes
end

