-- ==== Sys2Proof/Tests/Slice0.lean ====
section
/-! SUPPORT. Tests. Expected values are those of spec/95_test_vectors.md and of the rules' own examples,
each named at its theorem. The theorems `wit_<Name>` show concrete values that meet the hypotheses of
the statement of that name, one conjunct for each clause. -/

namespace Sys2Proof.Tests

open Sys2Proof Sys2Proof.Machine

/-- The next state of an outcome, where there is one. -/
def resultOf (o : Host.Outcome State Fault Refusal) : Option State :=
  match o with
  | .next s => some s
  | .fault _ => none
  | .refused _ => none

/-- Reset, with these bytes in the scan buffer and the scan loop running. -/
def scanning (bytes : List Byte) : State := { State.reset with buf := bytes, scanReq := true }

/-- Reset, with the timer at `sf` and the timeout `t`. -/
def timed (t sf : Nat) (s : State) : State :=
  { s with cfg := { s.cfg with timeout := t }, sinceFrame := sf }

/-- Reset, then latched. -/
def latched : State := { State.reset with linkState := .passthrough }

/-- A small conforming configuration: `MAX_FRAME = 6`, so `MAX_PAYLOAD = 2`. -/
def small : State := { State.reset with cfg := { maxFrame := 6, bufCap := 18, tw := 2, timeout := 2 } }

/-- A configuration that R8 refuses: `MAX_FRAME = 2`. -/
def broken : State := { State.reset with cfg := { maxFrame := 2, bufCap := 18, tw := 2, timeout := 2 } }

/-! ### The header format: words written out from R50 and section 2 of the vectors -/

/-- C1. -/
theorem test_decode_hdrPrimary : decode [0x53, 0x00, 0x04, 0x57] = .ok (.hdrPrimary 4, []) := by decide

/-- C5: the high bits of the length are in byte 1. -/
theorem test_decode_hdrPrimary_high : decode [0x53, 0x01, 0x23, 0x71, 0xAA] = .ok (.hdrPrimary 0x123, [0xAA]) := by
  decide

/-- C2. -/
theorem test_decode_hdrSecondary : decode [0x53, 0x80, 0x04, 0xD7] = .ok (.hdrSecondary 4, []) := by decide

/-- C15. -/
theorem test_decode_hdrSecondary_longest : decode [0x53, 0xFF, 0xFF, 0x53] = .ok (.hdrSecondary 0x7FFF, []) := by
  decide

/-- R65: the checksum byte is right and the magic byte is not. -/
theorem test_decode_nafMagic : decode [0x52, 0x00, 0x04, 0x56] = .ok (.nafMagic 0x52 0x00 0x04 0x56, []) := by decide

/-- C12. -/
theorem test_decode_nafChecksum : decode [0x53, 0x00, 0x04, 0x56] = .ok (.nafChecksum 0x00 0x04 0x56, []) := by decide

/-- R71: three bytes are no window. -/
theorem test_decode_short : decode [0x53, 0x00, 0x04] = .error .shortWindow := by decide

/-- C6. -/
theorem test_encode_hdrSecondary : encode (.hdrSecondary 0x100) = some [0x53, 0x81, 0x00, 0xD2] := by decide

/-- C7. -/
theorem test_encode_hdrPrimary : encode (.hdrPrimary 836) = some [0x53, 0x03, 0x44, 0x14] := by decide

/-- R55: the high byte of the word is transmitted first. -/
theorem test_tableWord_hdrPrimary : decodeTableWord 32 0x53000457 = some (.hdrPrimary 4) := by decide

/-- R56: the match value of HDR_PRIMARY with a checksum byte of zero is a NAF_CHECKSUM window. -/
theorem test_tableWord_zero_checksum : decodeTableWord 32 0x53000000 = some (.nafChecksum 0 0 0) := by decide

/-- R62: an operation has no bit pattern. -/
theorem test_operations_have_no_bytes :
    decodeTableWord 8 1 = none ∧
    [Instr.checksum 0 0 0, .encode .primary 0, .decode 0 0 0 0, .rxChunk [0], .parseIdle, .parseSlide,
      .parseLatch, .parseTooLarge, .parseWait, .tick, .parseDispatch, .rawForward [0],
      .dgDropOversize .primary [], .dgDropInvalid .primary [], .dgFramed .primary [], .dgRaw [],
      .acquire .primary, .txByte, .linkFault, .reset].all (fun i => encode i == none) = true := by decide

/-! ### Ill-formed terms that each check refuses -/
theorem test_wellFormed_nafMagic : wellFormed (.nafMagic 0x53 0x00 0x04 0x56) = false := by decide
theorem test_wellFormed_nafChecksum : wellFormed (.nafChecksum 0x00 0x04 0x57) = false := by decide
theorem test_wellFormed_rxChunk : wellFormed (.rxChunk []) = false := by decide
theorem test_wellFormed_rawForward : wellFormed (.rawForward []) = false := by decide

/-! ### One step of each operation -/

/-- C10: the swap leaves the checksum unchanged. -/
theorem test_checksum : (resultOf (exec (.checksum 0x53 0x02 0x01) State.reset)).bind (fun s => s.ret) =
    some (.checksum 0x50) := by decide

/-- C7. -/
theorem test_encode_largest : (resultOf (exec (.encode .primary 836) State.reset)).bind (fun s => s.ret) =
    some (.encoded [0x53, 0x03, 0x44, 0x14]) := by decide

/-- C9. -/
theorem test_encode_invalid : (resultOf (exec (.encode .primary 837) State.reset)).bind (fun s => s.ret) =
    some .invalidLength := by decide

/-- C16: DECODE does not check `MAX_FRAME`. -/
theorem test_decode_long : (resultOf (exec (.decode 0x53 0x03 0x45 0x15) State.reset)).bind (fun s => s.ret) =
    some (.decoded ⟨.primary, 837⟩) := by decide

/-- C14. -/
theorem test_decode_notAFrame : (resultOf (exec (.decode 0x53 0x00 0x04 0xD7) State.reset)).bind (fun s => s.ret) =
    some .notAFrame := by decide

/-- V1. -/
theorem test_rxChunk : (resultOf (exec (.rxChunk [0x53, 0x00]) State.reset)).map (fun s => (s.buf, s.scanReq)) =
    some ([0x53, 0x00], true) := by decide

/-- Section 3, guard corner: no chunk while the scan runs. -/
theorem test_rxChunk_scanning : resultOf (exec (.rxChunk [0x00]) (scanning [0x53])) = none := by decide

/-- V1. -/
theorem test_parseIdle : (resultOf (exec .parseIdle (scanning [0x53, 0x00]))).map (fun s => (s.buf, s.scanReq)) =
    some ([0x53, 0x00], false) := by decide

/-- R72's example. -/
theorem test_parseSlide :
    (resultOf (exec .parseSlide (scanning [0x00, 0x11, 0x22, 0x53, 0x80, 0x02, 0xD1]))).map (fun s => s.buf) =
      some [0x11, 0x22, 0x53, 0x80, 0x02, 0xD1] := by decide

/-- V5: a timer equal to `T` has not expired. -/
theorem test_parseSlide_at_timeout :
    (resultOf (exec .parseSlide (timed 3 3 (scanning [1, 2, 3, 4, 5])))).map (fun s => s.buf) =
      some [2, 3, 4, 5] := by decide

/-- R73's example, P2. -/
theorem test_parseLatch :
    (resultOf (exec .parseLatch (timed 3 4 (scanning [1, 2, 3, 4, 5, 6])))).map
        (fun s => (s.linkState, s.dispHist, s.buf, s.scanReq)) =
      some (.passthrough, [(.primary, [2, 3, 4, 5, 6])], [], false) := by decide

/-- P3. -/
theorem test_parseTooLarge :
    (resultOf (exec .parseTooLarge (scanning [0x53, 0x03, 0x45, 0x15, 0x00, 0x53, 0x00, 0x01, 0x52, 0x7F]))).map
        (fun s => (s.buf, s.errHist)) =
      some ([0x53, 0x00, 0x01, 0x52, 0x7F], [⟨.frameTooLarge, none⟩]) := by decide

/-- V7: no later magic byte. -/
theorem test_parseTooLarge_empty :
    (resultOf (exec .parseTooLarge (scanning [0x53, 0x03, 0x45, 0x15, 0x01, 0x02]))).map (fun s => s.buf) =
      some [] := by decide

/-- R77's example, P4. -/
theorem test_parseWait :
    (resultOf (exec .parseWait (timed 100 7 (scanning [0x53, 0x00, 0x04, 0x57, 1, 2])))).map
        (fun s => (s.buf, s.scanReq, s.sinceFrame)) =
      some ([0x53, 0x00, 0x04, 0x57, 1, 2], false, 0) := by decide

/-- R79's example. -/
theorem test_tick : (resultOf (exec .tick (timed 100 3 State.reset))).map (fun s => s.sinceFrame) = some 4 := by decide

/-- V14. -/
theorem test_tick_saturates :
    (resultOf (exec .tick (timed 100 0xFFFF State.reset))).map (fun s => s.sinceFrame) = some 0xFFFF := by decide

/-- W1. -/
theorem test_parseDispatch :
    (resultOf (exec .parseDispatch (timed 100 7 (scanning [0x53, 0x00, 0x04, 0x57, 0xDE, 0xAD, 0xBE, 0xEF])))).map
        (fun s => (s.dispHist, s.buf, s.sinceFrame)) =
      some ([(.primary, [0xDE, 0xAD, 0xBE, 0xEF])], [], 0) := by decide

/-- M2: a zero-length frame gives an empty packet. -/
theorem test_parseDispatch_empty :
    (resultOf (exec .parseDispatch (scanning [0x53, 0x80, 0x00, 0xD3]))).map (fun s => s.outHist1) =
      some [[]] := by decide

/-- M4. -/
theorem test_rawForward :
    (resultOf (exec (.rawForward [0x53, 0x00, 0x04, 0x57, 1, 2, 3, 4]) latched)).map (fun s => s.dispHist) =
      some [(.primary, [0x53, 0x00, 0x04, 0x57, 1, 2, 3, 4])] := by decide

/-- A4, with `MAX_PAYLOAD = 2`. -/
theorem test_dgDropOversize :
    (resultOf (exec (.dgDropOversize .primary [1, 2, 3]) small)).map (fun s => (s.errHist, s.pending0)) =
      some ([⟨.oversizedDatagram, some .primary⟩], none) := by decide

/-- R95: reached only in a configuration that R8 refuses. -/
theorem test_dgDropInvalid :
    (resultOf (exec (.dgDropInvalid .secondary []) broken)).map (fun s => s.errHist) =
      some [⟨.invalidLength, some .secondary⟩] := by decide

/-- R96's example. -/
theorem test_dgFramed :
    (resultOf (exec (.dgFramed .secondary [0xBB]) latched)).map (fun s => s.pending1) =
      some (some [0x53, 0x80, 0x01, 0xD2, 0xBB]) := by decide

/-- A1. -/
theorem test_dgFramed_empty :
    (resultOf (exec (.dgFramed .primary []) State.reset)).map (fun s => s.pending0) =
      some (some [0x53, 0x00, 0x00, 0x53]) := by decide

/-- A8. -/
theorem test_dgRaw :
    (resultOf (exec (.dgRaw [0x53, 0x00, 0x04, 0x57]) latched)).map (fun s => s.pending0) =
      some (some [0x53, 0x00, 0x04, 0x57]) := by decide

/-- A2. -/
theorem test_dgRaw_empty : (resultOf (exec (.dgRaw []) latched)).map (fun s => s.pending0) = some none := by decide

/-- R100's example. -/
theorem test_acquire :
    (resultOf (exec (.acquire .secondary)
        { State.reset with pending1 := some [0x53, 0x80, 0x01, 0xD2, 0xBB] })).map
          (fun s => (s.lock, s.wrRem, s.pending1)) =
      some (some .secondary, [0x53, 0x80, 0x01, 0xD2, 0xBB], none) := by decide

/-- R101's example. -/
theorem test_txByte_last :
    (resultOf (exec .txByte { State.reset with lock := some .secondary, wrRem := [0xBB] })).map
        (fun s => (s.serHist, s.wrRem, s.lock)) = some ([0xBB], [], none) := by decide

/-- R101, before the last byte. -/
theorem test_txByte :
    (resultOf (exec .txByte { State.reset with lock := some .primary, wrRem := [1, 2] })).map
        (fun s => (s.serHist, s.wrRem, s.lock)) = some ([1], [2], some .primary) := by decide

/-- E1. -/
theorem test_linkFault :
    (resultOf (exec .linkFault { State.reset with lock := some .primary, wrRem := [4, 0x57] })).map
        (fun s => (s.halted, s.errHist, s.serHist)) = some (true, [⟨.linkIoError, none⟩], []) := by decide

/-- E2. -/
theorem test_halted_tick : resultOf (exec .tick { State.reset with halted := true }) = none := by decide

/-- E3, and the histories stay (P5). -/
theorem test_reset :
    (resultOf (exec .reset { latched with halted := true, buf := [9], sinceFrame := 7, serHist := [1] })) =
      some { State.reset with serHist := [1] } := by decide

/-! ### The header classes and the step -/

/-- W1's window, placed where the parser fetches it: the payload is awaited. -/
theorem test_step_hdrPrimary :
    (resultOf (step (State.reset.withFetchWord 32 0x53000457))).map (fun s => (s.buf, s.scanReq)) =
      some ([0x53, 0x00, 0x04, 0x57], false) := by decide

/-- M1. -/
theorem test_hdrSecondary :
    (resultOf (exec (.hdrSecondary 2) (scanning [0x53, 0x80, 0x02, 0xD1, 0xAA, 0xBB]))).map (fun s => s.dispHist) =
      some [(.secondary, [0xAA, 0xBB])] := by decide

/-- V2: a magic byte with a bad checksum slides one byte. -/
theorem test_nafChecksum :
    (resultOf (exec (.nafChecksum 0x00 0x04 0x56) (scanning [0x53, 0x00, 0x04, 0x56, 0x53]))).map (fun s => s.buf) =
      some [0x00, 0x04, 0x56, 0x53] := by decide

/-- V13: the first failed decode sees the expired timer. -/
theorem test_nafMagic :
    (resultOf (exec (.nafMagic 0xEE 0x53 0x00 0x00) (timed 5 9 (scanning [0xEE, 0x53, 0x00, 0x00, 0x53])))).map
        (fun s => (s.linkState, s.dispHist)) =
      some (.passthrough, [(.primary, [0x53, 0x00, 0x00, 0x53])]) := by decide

/-- A9: an offer that is not enabled leaves the block as it is. -/
theorem test_step_lapse :
    resultOf (step { State.reset with pending0 := some [0xAA], agenda := [[.datagramIn .primary [0xBB]]] }) =
      some { State.reset with pending0 := some [0xAA] } := by decide

/-! ### Concrete values that meet the hypotheses of the statements -/

theorem wit_DecodeInvertsEncode : wellFormed (.hdrSecondary 0x7FFF) = true ∧
    encode (.hdrSecondary 0x7FFF) = some [0x53, 0xFF, 0xFF, 0x53] := by decide

theorem wit_HeaderCodecRoundTrip : State.reset.cfg.Valid ∧ 836 ≤ State.reset.cfg.maxFrame - 4 ∧
    decodeHeader 0x53 0x03 0x44 0x14 = some ⟨.primary, 836⟩ ∧
    (836 : Len).toNat ≤ State.reset.cfg.maxFrame - 4 := by decide

theorem wit_SingleByteErrorsAreDetected : decodeHeader 0x53 0x80 0x04 0xD7 = some ⟨.secondary, 4⟩ ∧
    (0x80 : Byte) ≠ 0x04 ∧ (0x80 : Byte).getLsbD 7 ≠ (0x04 : Byte).getLsbD 7 ∧ (0x52 : Byte) ≠ 0x53 := by decide

theorem wit_EncodeReturnsHeaderOrInvalidLength :
    State.reset.cfg.maxFrame < 4 + 837 ∧ 836 ≤ 0x7FFF ∧ 4 + 836 ≤ State.reset.cfg.maxFrame ∧
    (0x03 : Byte).toNat = 0 + 836 / 256 ∧ (0x44 : Byte).toNat = 836 % 256 := by decide

theorem wit_DecodeReturnsHeaderOrNotAFrame :
    (0x52 : Byte) ≠ 0x53 ∧ (0xD7 : Byte) = 0x53 ^^^ 0x80 ^^^ 0x04 ∧
    SubStream.secondary = (if (0x80 : Byte).toNat / 128 = 1 then SubStream.secondary else .primary) ∧
    (4 : Len).toNat = (0x80 : Byte).toNat % 128 * 256 + (0x04 : Byte).toNat := by decide

theorem wit_RxChunkAppendsAndStartsTheScan :
    (small.halted = false ∧ small.linkState = .framed ∧ small.scanReq = false ∧
      1 ≤ (List.replicate 18 (0 : Byte)).length ∧
      (List.replicate 18 (0 : Byte)).length ≤ small.cfg.bufCap - small.buf.length) ∧
    ¬ ((List.replicate 19 (0 : Byte)).length ≤ small.cfg.bufCap - small.buf.length) := by decide

theorem wit_ParseIdleStopsAShortScan :
    ((scanning [1, 2, 3]).halted = false ∧ (scanning [1, 2, 3]).linkState = .framed ∧
      (scanning [1, 2, 3]).scanReq = true ∧ (scanning [1, 2, 3]).buf.length < 4) ∧
    ¬ (scanning [1, 2, 3, 4]).buf.length < 4 := by decide

theorem wit_ParseSlideDropsOneByte :
    let s := timed 3 3 (scanning [1, 2, 3, 4])
    (s.halted = false ∧ s.linkState = .framed ∧ s.scanReq = true ∧ 4 ≤ s.buf.length ∧
      s.headHeader = none ∧ ¬ s.cfg.timeout < s.sinceFrame) ∧
    ¬ 4 ≤ (scanning [1, 2, 3]).buf.length := by decide

theorem wit_ParseLatchFlushesTheRest :
    let s := timed 3 4 (scanning [1, 2, 3, 4])
    (s.halted = false ∧ s.linkState = .framed ∧ s.scanReq = true ∧ 4 ≤ s.buf.length ∧
      s.headHeader = none ∧ s.cfg.timeout < s.sinceFrame) ∧
    ¬ (timed 3 3 s).cfg.timeout < (timed 3 3 s).sinceFrame := by decide

/-- The too-large header `53 03 45 15` (length 837), with a magic byte at index 5, then without one. -/
theorem wit_ParseTooLargeResynchronises :
    let s := scanning [0x53, 0x03, 0x45, 0x15, 0x00, 0x53]
    let u := scanning [0x53, 0x03, 0x45, 0x15]
    (s.halted = false ∧ s.linkState = .framed ∧ s.scanReq = true ∧
      s.headHeader = some ⟨.primary, 837⟩ ∧ s.cfg.maxFrame < 4 + (837 : Len).toNat ∧
      s.buf[5]? = some 0x53 ∧ ∀ j < 5, 1 ≤ j → s.buf[j]? ≠ some 0x53) ∧
    (u.headHeader = some ⟨.primary, 837⟩ ∧ ∀ j < 4, 1 ≤ j → u.buf[j]? ≠ some 0x53) ∧
    State.reset.scanReq ≠ true := by decide

theorem wit_ParseWaitKeepsTheBuffer :
    let s := scanning [0x53, 0x00, 0x04, 0x57, 1, 2, 3]
    (s.halted = false ∧ s.linkState = .framed ∧ s.scanReq = true ∧ s.headHeader = some ⟨.primary, 4⟩ ∧
      4 + (4 : Len).toNat ≤ s.cfg.maxFrame ∧ s.buf.length < 4 + (4 : Len).toNat) ∧
    State.reset.scanReq ≠ true := by decide

theorem wit_TickSaturates : State.reset.halted = false ∧
    ({ State.reset with halted := true } : State).halted = true := by decide

theorem wit_ParseDispatchEmitsThePayload :
    let s := scanning [0x53, 0x00, 0x01, 0x52, 1]
    let u := scanning [0x53, 0x80, 0x00, 0xD3]
    (s.halted = false ∧ s.linkState = .framed ∧ s.scanReq = true ∧
      4 + (1 : Len).toNat ≤ s.cfg.maxFrame ∧ 4 + (1 : Len).toNat ≤ s.buf.length ∧
      s.headHeader = some ⟨.primary, 1⟩) ∧
    (4 + (0 : Len).toNat ≤ u.cfg.maxFrame ∧ 4 + (0 : Len).toNat ≤ u.buf.length ∧
      u.headHeader = some ⟨.secondary, 0⟩) ∧ State.reset.scanReq ≠ true := by decide

theorem wit_RawForwardEmitsTheChunk :
    (latched.halted = false ∧ latched.linkState = .passthrough ∧ 1 ≤ ([7] : List Byte).length ∧
      ([7] : List Byte).length ≤ latched.cfg.bufCap) ∧ ¬ 1 ≤ ([] : List Byte).length := by decide

/-- The three clauses at the boundary: `MAX_FRAME = 6` with a length of 3, of 2 awaited, and of 2 there. -/
theorem wit_HeaderClassesRunTheScanIteration :
    let mk := fun (bytes : List Byte) => ({ small with buf := bytes, scanReq := true } : State)
    ((mk (headerBytes .primary 3)).halted = false ∧ (mk (headerBytes .primary 3)).linkState = .framed ∧
      (mk (headerBytes .primary 3)).cfg.maxFrame < 4 + (3 : Len).toNat) ∧
    (4 + (2 : Len).toNat ≤ small.cfg.maxFrame ∧ ([1] : List Byte).length < (2 : Len).toNat) ∧
    ([1, 2, 9] : List Byte) = [1, 2] ++ [9] ∧ ([1, 2] : List Byte).length = (2 : Len).toNat := by decide

theorem wit_NotAFrameClassesRunTheScanIteration :
    let s := scanning [0x52, 0x00, 0x04, 0x57]
    (s.halted = false ∧ s.linkState = .framed ∧ s.scanReq = true ∧ (0x52 : Byte) ≠ 0x53 ∧
      (timed 3 3 s).sinceFrame ≤ (timed 3 3 s).cfg.timeout) ∧
    ((0x56 : Byte) ≠ 0x53 ^^^ 0x00 ^^^ 0x04 ∧ (timed 3 4 s).cfg.timeout < (timed 3 4 s).sinceFrame) := by decide

theorem wit_ScanSelectsExactlyOneOperation :
    Instr.parseIdle ∈ [Instr.parseIdle, .parseSlide, .parseLatch, .parseTooLarge, .parseWait, .parseDispatch] ∧
    ¬ (latched.halted = false ∧ latched.linkState = .framed ∧ latched.scanReq = true) ∧
    ((scanning [1]).halted = false ∧ (scanning [1]).linkState = .framed ∧ (scanning [1]).scanReq = true) ∧
    (resultOf (exec .parseSlide (scanning [1, 2, 3, 4]))).map (fun t => t.scanReq) = some true := by decide

theorem wit_ScanLoopEndsWithinTheBuffer :
    (scanning []).halted = false ∧ (scanning []).linkState = .framed ∧ (scanning []).scanReq = true := by decide

theorem wit_FetchedClassRunsTheSelectedOperation :
    (scanning []).halted = false ∧ (scanning []).linkState = .framed ∧ (scanning []).scanReq = true := by decide

theorem wit_OversizedDatagramIsDroppedAndReported :
    (small.halted = false ∧ small.pending .secondary = none ∧ small.lock ≠ some .secondary ∧
      small.cfg.maxFrame - 4 < ([1, 2, 3] : List Byte).length) ∧
    ¬ small.cfg.maxFrame - 4 < ([1, 2] : List Byte).length := by decide

theorem wit_InvalidLengthIsDroppedAndReported :
    (broken.halted = false ∧ broken.pending .primary = none ∧ broken.lock ≠ some .primary ∧
      ([] : List Byte).length ≤ broken.cfg.maxFrame - 4 ∧
      (SubStream.primary = .secondary ∨ broken.linkState = .framed) ∧
      encodeHeader broken.cfg .primary ([] : List Byte).length = none) ∧
    encodeHeader small.cfg .primary 2 ≠ none ∧ small.cfg.Valid := by decide

theorem wit_FramedDatagramIsHeaderThenData :
    (small.halted = false ∧ small.pending .primary = none ∧ small.lock ≠ some .primary ∧
      ([1, 2] : List Byte).length ≤ small.cfg.maxFrame - 4 ∧ small.linkState = .framed ∧
      encodeHeader small.cfg .primary 2 = some [0x53, 0x00, 0x02, 0x51]) ∧
    (latched.pending .secondary = none ∧
      encodeHeader latched.cfg .secondary 0 = some [0x53, 0x80, 0x00, 0xD3]) ∧
    ¬ ([1, 2, 3] : List Byte).length ≤ small.cfg.maxFrame - 4 := by decide

theorem wit_RawDatagramCarriesNoHeader :
    (latched.halted = false ∧ latched.pending .primary = none ∧ latched.lock ≠ some .primary ∧
      latched.linkState = .passthrough ∧ ([1] : List Byte).length ≤ latched.cfg.maxFrame - 4 ∧
      ([1] : List Byte) ≠ []) ∧
    ([] : List Byte).length ≤ latched.cfg.maxFrame - 4 ∧ small.linkState ≠ .passthrough := by decide

theorem wit_DatagramSelectsExactlyOneOperation :
    small.halted = false ∧ small.pending .primary = none ∧ small.lock ≠ some .primary := by decide

theorem wit_AcquireGrantsTheSequence :
    let s := ({ State.reset with pending0 := some [1], pending1 := some [2] } : State)
    (s.halted = false ∧ s.lock = none ∧ s.pending .primary = some [1] ∧ s.pending .secondary = some [2]) ∧
    ¬ State.reset.pending .primary ≠ none := by decide

theorem wit_TxByteWritesTheNextByte :
    let s := ({ State.reset with lock := some .primary, wrRem := [1] } : State)
    let u := ({ State.reset with lock := some .primary, wrRem := [1, 2] } : State)
    (s.halted = false ∧ s.lock ≠ none ∧ s.wrRem = [1]) ∧ (u.lock ≠ none ∧ u.wrRem = 1 :: [2] ∧ ([2] : List Byte) ≠ []) ∧
    ¬ State.reset.lock ≠ none := by decide

theorem wit_GrantedSequenceIsWrittenWhole :
    let s := ({ State.reset with pending0 := some [1] } : State)
    s.halted = false ∧ s.lock = none ∧ s.pending .primary = some [1] ∧ ([1] : List Byte) ≠ [] := by decide

theorem wit_SerialOutputIsTheGrantedSequencesInOrder :
    let s := ({ State.reset with pending0 := some [1, 2] } : State)
    .reset ∉ [Instr.acquire .primary, .txByte] ∧ (s.lock = none → s.wrRem = []) ∧
    (resultOf (runOps [.acquire .primary, .txByte] s)).map (fun t => t.serHist) = some [1] := by decide

theorem wit_LinkFaultReportsAndHalts : State.reset.halted = false ∧
    ({ State.reset with halted := true } : State).halted = true := by decide

theorem wit_HaltedStopsTheBlock :
    let s := ({ State.reset with halted := true } : State)
    s.halted = true ∧ s.cfg.Valid ∧ resetFollows s.agenda = false ∧ Instr.tick ≠ .reset := by decide

/-- A guard that holds; and with a false guard a live state and a halted one. -/
theorem wit_OperationsStepExactlyWhereTheirGuardHolds :
    Guard State.reset .tick ∧ ¬ Guard State.reset .parseIdle ∧ State.reset.halted = false ∧
    ¬ Guard { State.reset with halted := true } .tick := by
  simp [Guard, State.Parsing, State.reset]

theorem wit_LatchIsOneWay :
    (resultOf (exec .parseLatch (timed 3 4 (scanning [1, 2, 3, 4])))).map (fun t => t.linkState) =
      some .passthrough ∧
    latched.linkState = .passthrough ∧ .reset ∉ [Instr.tick] ∧
    (resultOf (runOps [.tick] latched)).isSome = true := by decide

theorem wit_TimerIsClearedByHeadersOnly :
    (resultOf (exec .parseWait (timed 100 7 (scanning [0x53, 0x00, 0x04, 0x57])))).map (fun t => t.sinceFrame) =
      some 0 ∧ (timed 100 7 (scanning [])).sinceFrame ≠ 0 ∧ Instr.parseWait ≠ .tick ∧ Instr.parseWait ≠ .reset ∧
    (resultOf (exec .reset State.reset)).isSome = true := by decide

theorem wit_EachElementHasItsWriters :
    (resultOf (exec (.rxChunk [1]) State.reset)).map (fun t => t.buf) = some [1] ∧ Instr.rxChunk [1] ≠ .reset ∧
    (resultOf (exec .tick State.reset)).map (fun t => t.sinceFrame) = some 1 ∧
    (resultOf (exec (.dgFramed .primary []) State.reset)).map (fun t => t.pending .primary) ≠ some none ∧
    (resultOf (exec .txByte { State.reset with lock := some .primary, wrRem := [1] })).map (fun t => t.lock) =
      some none ∧
    (resultOf (exec .linkFault State.reset)).map (fun t => t.halted) = some true := by decide

theorem wit_HistoriesOnlyGrow :
    (resultOf (step { State.reset with agenda := [[.operation .linkFault]] })).map (fun t => t.errHist) =
      some [⟨.linkIoError, none⟩] := by decide

theorem wit_ScanBufferIsFirstInFirstOut :
    (resultOf (exec .parseSlide (scanning [1, 2, 3, 4]))).map (fun t => t.buf) = some [2, 3, 4] := by decide

theorem wit_OperationsReportExactlyTheirErrors :
    (resultOf (exec (.dgDropOversize .secondary [1, 2, 3]) small)).map (fun t => t.errHist) =
      some [⟨.oversizedDatagram, some .secondary⟩] := by decide

theorem wit_PassthroughInboundIsARawPipe :
    .reset ∉ [Instr.rawForward [1], .rawForward [2, 3]] ∧ latched.linkState = .passthrough ∧
    (resultOf (runOps [.rawForward [1], .rawForward [2, 3]] latched)).map (fun t => t.dispHist) =
      some [(.primary, [1]), (.primary, [2, 3])] := by decide

/-- P1's input: two frames around the garbage `00 11 22`. -/
theorem wit_TwoFramesAroundGarbageDispatchTwice :
    let p1 : List Byte := [0xDE, 0xAD, 0xBE, 0xEF]
    let g : List Byte := [0x00, 0x11, 0x22]
    let p2 : List Byte := [0xAA, 0xBB]
    let f2 := headerBytes .secondary (BitVec.ofNat 15 p2.length) ++ p2
    let c := (headerBytes .primary (BitVec.ofNat 15 p1.length) ++ p1) ++ g ++ f2
    (State.reset.halted = false ∧ State.reset.linkState = .framed ∧ State.reset.scanReq = false ∧
      State.reset.buf = [] ∧ p1.length ≤ 0x7FFF ∧ 4 + p1.length ≤ State.reset.cfg.maxFrame ∧
      p2.length ≤ 0x7FFF ∧ 4 + p2.length ≤ State.reset.cfg.maxFrame ∧ c.length ≤ State.reset.cfg.bufCap) ∧
    ∀ j b0 b1 b2 b3 rest, j < g.length → (g ++ f2).drop j = b0 :: b1 :: b2 :: b3 :: rest →
      decodeHeader b0 b1 b2 b3 = none := by
  refine ⟨by decide, ?_⟩
  intro j b0 b1 b2 b3 rest hj h
  have h0 : b0 ≠ magic := by
    match j, hj with
    | 0, _ => cases h; decide
    | 1, _ => cases h; decide
    | 2, _ => cases h; decide
  unfold decodeHeader
  rw [if_pos h0]

/-- A state with the invariant in which the parser waits for payload bytes and a tick comes next. -/
def waitingState : State :=
  { State.reset with buf := [0x53, 0x00, 0x04, 0x57, 1, 2], agenda := [[.operation .tick]] }

theorem wit_InvariantIsKeptByEveryStep : waitingState.Inv ∧ (resultOf (step waitingState)).isSome = true := by
  refine ⟨⟨by decide, by decide, by decide, by decide, by decide, ?_, ?_, by decide, ?_, ?_, by decide, by decide⟩, by decide⟩
  · intro k q h
    cases k <;> cases h
  · intro _ _
    exact .inr ⟨⟨.primary, 4⟩, by decide, by decide, by decide⟩
  · intro k
    cases k <;> rfl
  · intro e he
    cases he

theorem wit_WaitingParserAlwaysHasRoom : waitingState.Inv ∧ waitingState.linkState = .framed ∧
    waitingState.scanReq = false ∧ waitingState.halted = false ∧ 1 ≤ ([3, 4] : List Byte).length ∧
    ([3, 4] : List Byte).length ≤ waitingState.cfg.bufCap - waitingState.buf.length :=
  ⟨wit_InvariantIsKeptByEveryStep.1, by decide⟩

theorem wit_StepRunsTheDecodedWindow :
    let s := ({ scanning [0x53, 0x00, 0x04, 0x57] with agenda := [.scan] :: [] } : State)
    s.cfg.Valid ∧ s.halted = false ∧ s.linkState = .framed ∧ s.scanReq = true ∧ s.agenda = [.scan] :: [] ∧
      decode s.buf = .ok (.hdrPrimary 4, []) := by decide

/-- A live block with an enabled operation and one that is not; a halted one with a RESET to come, and
with the RESET itself next. -/
theorem wit_StepTakesOrLapsesANamedOperation :
    let s := ({ State.reset with agenda := [.operation .tick] :: [] } : State)
    let u := ({ s with halted := true, agenda := [.operation .tick] :: [[.operation .reset]] } : State)
    let v := ({ u with agenda := [.operation .reset] :: [] } : State)
    (s.cfg.Valid ∧ s.halted = false ∧ s.agenda = [.operation .tick] :: [] ∧
      (resultOf (exec .tick { s with agenda := [] })).isSome = true ∧
      exec .parseIdle { s with agenda := [] } = .refused (.notEnabled "PARSE_IDLE")) ∧
    (u.cfg.Valid ∧ resetFollows u.agenda = true ∧
      exec .tick { u with agenda := [[.operation .reset]] } = .fault .linkIoError) ∧
    (v.cfg.Valid ∧ v.halted = true ∧ v.agenda = [.operation .reset] :: []) :=
  ⟨⟨by decide, by decide, by decide, by decide, rfl⟩, ⟨by decide, by decide, rfl⟩, by decide⟩

theorem wit_ArrivingChunkIsTakenByLinkState :
    let s := ({ State.reset with agenda := [.serialIn [1]] :: [] } : State)
    let u := ({ latched with agenda := [.serialIn [1]] :: [] } : State)
    (s.cfg.Valid ∧ s.halted = false ∧ s.agenda = [.serialIn [1]] :: [] ∧ s.linkState = .framed ∧
      s.scanReq = false ∧ ([1] : List Byte).length ≤ s.cfg.bufCap - s.buf.length) ∧
    (u.cfg.Valid ∧ u.linkState = .passthrough ∧ ([1] : List Byte).length ≤ u.cfg.bufCap) := by decide

theorem wit_PlacedWordIsRunNext :
    State.reset.cfg.Valid ∧ decodeTableWord 32 0x538002D1 = some (.hdrSecondary 2) := by decide

/-- A halted block whose cycle holds a reset with a driven timeout among others; a live one with a link
fault; a live one with neither; and a halted one that waits. -/
theorem wit_CycleOrderIsResetThenFaultThenRest :
    let c : List Event := [.operation .tick, .resetWith 3, .operation .reset]
    let s := ({ State.reset with halted := true, agenda := c :: [] } : State)
    (s.cfg.Valid ∧ s.agenda = c :: [] ∧ c = [.operation .tick] ++ .resetWith 3 :: [.operation .reset] ∧
      (Event.resetWith 3).isReset = true ∧ (∀ x ∈ [Event.operation .tick], x.isReset = false) ∧
      3 + 2 ≤ 2 ^ s.cfg.tw ∧ 2 ^ s.cfg.tw < 65535 + 2) ∧
    ((∀ x ∈ [Event.operation .tick, .operation .linkFault], x.isReset = false) ∧
      State.reset.halted = false ∧ Event.operation .linkFault ∈ [Event.operation .tick, .operation .linkFault]) ∧
    Event.operation .linkFault ∉ [Event.operation .tick] ∧ resetFollows [[.operation .reset]] = true := by
  decide

theorem wit_NonconformingConfigurationIsRefused :
    ¬ (4 ≤ broken.cfg.maxFrame ∧ broken.cfg.maxFrame ≤ 4 + 0x7FFF ∧ 3 * broken.cfg.maxFrame ≤ broken.cfg.bufCap ∧
      broken.cfg.timeout + 2 ≤ 2 ^ broken.cfg.tw) := by decide

/-- With `TW = 2` the timeouts up to 2 satisfy R8 and 3 does not. -/
theorem wit_TimeoutChangesOnlyInReset :
    small.cfg.Valid ∧ small.halted = false ∧ resetFollows [[.resetWith 2]] = true ∧
    3 ≠ small.cfg.timeout ∧ 2 = small.cfg.timeout ∧ 2 + 2 ≤ 2 ^ small.cfg.tw ∧
    2 ^ small.cfg.tw < 3 + 2 := by decide

/-- A free port and a ready serial port; a chunk that ends at `last`, and one that fills 18 bytes. -/
theorem wit_BeatsCarryTheirPacket :
    (small.halted = false ∧ small.pending .secondary = none ∧ small.lock ≠ some .secondary ∧
      small.dgPart .secondary = []) ∧
    ((small.outputs false).serRxReady = true ∧ small.rxPart = [] ∧
      ([1] : List Byte).length < small.serialRoom ∧ (List.replicate 17 (0 : Byte)).length < small.serialRoom ∧
      (List.replicate 17 (0 : Byte)).length + 1 = small.serialRoom) := by decide

theorem wit_ArrivingDatagramIsTakenByTheTable :
    let s := ({ small with agenda := [.datagramIn .primary [1, 2, 3]] :: [] } : State)
    (s.cfg.Valid ∧ s.halted = false ∧ s.agenda = [.datagramIn .primary [1, 2, 3]] :: [] ∧
      s.pending .primary = none ∧ s.lock ≠ some .primary ∧ s.cfg.maxFrame - 4 < ([1, 2, 3] : List Byte).length) ∧
    ¬ (({ s with pending0 := some [1] } : State).pending .primary = none) := by decide

/-- Room for one byte more than is held, and for one byte only; a port that is not ready; and each form
of a packet beat. -/
theorem wit_BeatsAreHeldUntilTheirTransactionEnds :
    let e : Event := .serialBeat ⟨7, false⟩
    let s := ({ small with rxPart := List.replicate 16 0, agenda := [e] :: [] } : State)
    let f : Event := .datagramBeat .primary (.empty false)
    let u := ({ small with dgPart0 := [1], agenda := [f] :: [] } : State)
    (s.cfg.Valid ∧ s.halted = false ∧ s.agenda = [e] :: [] ∧ (s.outputs false).serRxReady = true ∧
      s.rxPart.length + 1 < s.serialRoom ∧ s.serialRoom ≤ (s.rxPart ++ [7]).length + 1 ∧
      ((scanning []).outputs false).serRxReady = false) ∧
    (u.cfg.Valid ∧ u.halted = false ∧ u.agenda = [f] :: [] ∧ u.pending .primary = none ∧
      u.lock ≠ some .primary ∧ step u = .refused .emptyBeatWithoutLast) ∧
    (resultOf (exec .reset u)).map (fun t => t.dgPart .primary) = some [] :=
  ⟨by decide, ⟨by decide, by decide, by decide, by decide, by decide, rfl⟩, by decide⟩

/-- R25: a datagram beat by beat, with an empty last beat. -/
theorem test_datagram_beats :
    (resultOf (serveAll [.datagramBeat .secondary (.byte 0xBB false), .datagramBeat .secondary (.empty true)]
      State.reset)).map (fun s => (s.pending .secondary, s.dgPart .secondary)) =
      some (some [0x53, 0x80, 0x01, 0xD2, 0xBB], []) := by decide

/-- R25: the beat that fills the scan buffer ends the chunk without `last`. -/
theorem test_serial_beat_fills :
    (resultOf (serve (.serialBeat ⟨9, false⟩) { small with buf := List.replicate 16 0, rxPart := [8] })).map
      (fun s => (s.buf.drop 16, s.rxPart, s.scanReq)) = some ([8, 9], [], true) := by decide

end Sys2Proof.Tests
end

/-! PROOFS. The scope rules of spec/00_scope.md: where an operation has a step (R13), how a step takes or
lapses a named operation (R116, R117, R125), and what the parameters and `cfg_timeout_i` may be (R8, R128). -/

namespace Sys2Proof.Machine

/-! ### Outcomes decided by a guard -/

/-- The outcome `o`, of an operation offered in `s`, is the one its guard `g` decides: a next state exactly
where `g` holds (R13), and otherwise a refusal by name in a live block and the halt's fault in a halted one
(R116). -/
def DecidedBy (s : State) (g : Prop) (o : Host.Outcome State Fault Refusal) : Prop :=
  ((∃ t, o = .next t) ↔ g) ∧
    (¬ g → s.halted = false → ∃ m, o = .refused (.notEnabled m)) ∧
    (¬ g → s.halted = true → o = .fault .linkIoError)

/-- An operation that always completes has the guard `True`. -/
theorem decidedBy_next (s t : State) : DecidedBy s True (.next t) :=
  ⟨iff_of_true ⟨t, rfl⟩ trivial, fun h => absurd trivial h, fun h => absurd trivial h⟩

/-- `perform` decides by its own test in a live block, however `guard` says so: by both conjuncts, or by a
test that already asks for a live block (`iff_and_self`). -/
theorem decidedBy_perform {n : String} {s t : State} {guard g : Prop} [Decidable g]
    (hguard : guard ↔ s.halted = false ∧ g) : DecidedBy s guard (perform n s g t) := by
  refine ⟨?_, fun hno hlive => ⟨n, ?_⟩, fun _ hhalted => perform_of_halted hhalted⟩
  · simp only [perform_eq_next_iff, hguard, exists_and_left, exists_eq, and_true]
  · exact perform_of_not_guard hlive fun hg => hno (hguard.2 ⟨hlive, hg⟩)

/-- An operation without its operand (no header, datagram, sequence or byte) has no step. -/
theorem decidedBy_perform_false {n : String} {s t : State} {guard : Prop} (hno : ¬ guard) :
    DecidedBy s guard (perform n s False t) :=
  decidedBy_perform (iff_of_false hno fun h => h.2)

/-! ### The operations whose test needs an operand first -/

/-- ENCODE answers in every state (R64; log 6). -/
theorem execEncode_decidedBy (k : SubStream) (n : Nat) (s : State) :
    DecidedBy s True (execEncode k n s) := by
  unfold execEncode
  split <;> exact decidedBy_next _ _

/-- DECODE answers in every state (R65; log 6). -/
theorem execDecode_decidedBy (b0 b1 b2 b3 : Byte) (s : State) :
    DecidedBy s True (execDecode b0 b1 b2 b3 s) := by
  unfold execDecode
  split <;> exact decidedBy_next _ _

/-- A header operation of the scan loop (R75, R77, R86) in a state whose head holds the header `h`: the guard
asks for the block to be live, the scan loop to run, and the operation's own test `P` of `h`. -/
theorem parsing_and_exists_header_iff {s : State} {h : Header} {P : Header → Prop}
    (hh : s.headHeader = some h) :
    (s.Parsing ∧ ∃ h', s.headHeader = some h' ∧ P h') ↔ s.halted = false ∧ s.Parsing ∧ P h := by
  rw [hh]
  constructor
  · rintro ⟨hparsing, _, ⟨⟩, htest⟩
    exact ⟨hparsing.1, hparsing, htest⟩
  · rintro ⟨-, hparsing, htest⟩
    exact ⟨hparsing, h, rfl, htest⟩

/-- PARSE_TOO_LARGE needs a header at the scan head (R75). -/
theorem execParseTooLarge_decidedBy (s : State) :
    DecidedBy s (Guard s .parseTooLarge) (execParseTooLarge s) := by
  unfold execParseTooLarge
  split
  · next h hh => exact decidedBy_perform (parsing_and_exists_header_iff hh)
  · next hh => exact decidedBy_perform_false (by simp [Guard, hh])

/-- PARSE_WAIT needs a header at the scan head (R77). -/
theorem execParseWait_decidedBy (s : State) :
    DecidedBy s (Guard s .parseWait) (execParseWait s) := by
  unfold execParseWait
  split
  · next h hh => exact decidedBy_perform (parsing_and_exists_header_iff hh)
  · next hh => exact decidedBy_perform_false (by simp [Guard, hh])

/-- PARSE_DISPATCH needs a header at the scan head (R86). -/
theorem execParseDispatch_decidedBy (s : State) :
    DecidedBy s (Guard s .parseDispatch) (execParseDispatch s) := by
  unfold execParseDispatch
  split
  · next h hh => exact decidedBy_perform (parsing_and_exists_header_iff hh)
  · next hh => exact decidedBy_perform_false (by simp [Guard, hh])

/-- DG_FRAMED needs the datagram's header (R96). -/
theorem execDgFramed_decidedBy (k : SubStream) (d : List Byte) (s : State) :
    DecidedBy s (Guard s (.dgFramed k d)) (execDgFramed k d s) := by
  unfold execDgFramed
  split
  · next h hh =>
    refine decidedBy_perform ⟨fun ⟨hfree, hlen, hframes, _⟩ => ⟨hfree.1, hfree, hlen, hframes⟩, ?_⟩
    exact fun ⟨_, hfree, hlen, hframes⟩ => ⟨hfree, hlen, hframes, by simp [hh]⟩
  · next hh => exact decidedBy_perform_false (by simp [Guard, hh])

/-- ACQUIRE needs a pending sequence (R100). -/
theorem execAcquire_decidedBy (k : SubStream) (s : State) :
    DecidedBy s (Guard s (.acquire k)) (execAcquire k s) := by
  unfold execAcquire
  split
  · next q hq => exact decidedBy_perform (by simp [Guard, hq])
  · next hq => exact decidedBy_perform_false (by simp [Guard, hq])

/-- TX_BYTE needs a byte left to write (R101; log 17). -/
theorem execTxByte_decidedBy (s : State) : DecidedBy s (Guard s .txByte) (execTxByte s) := by
  unfold execTxByte
  split
  · next b rest hr => exact decidedBy_perform (by simp [Guard, hr])
  · next hr => exact decidedBy_perform_false (by simp [Guard, hr])

/-! ### Every operation -/

/-- Every operation's outcome is the one its guard decides (R13, R116). -/
theorem exec_decidedBy_guard (i : Instr) (s : State) : DecidedBy s (Guard s i) (exec i s) := by
  cases i with
  | hdrPrimary len => exact decidedBy_perform (iff_and_self.2 fun ⟨⟨live, _⟩, _⟩ => live)
  | hdrSecondary len => exact decidedBy_perform (iff_and_self.2 fun ⟨⟨live, _⟩, _⟩ => live)
  | nafMagic b0 b1 b2 b3 => exact decidedBy_perform (iff_and_self.2 fun ⟨⟨live, _⟩, _⟩ => live)
  | nafChecksum b1 b2 b3 => exact decidedBy_perform (iff_and_self.2 fun ⟨⟨live, _⟩, _⟩ => live)
  | checksum b0 b1 b2 => exact decidedBy_next _ _
  | encode k n => exact execEncode_decidedBy k n s
  | decode b0 b1 b2 b3 => exact execDecode_decidedBy b0 b1 b2 b3 s
  | rxChunk c => exact decidedBy_perform Iff.rfl
  | parseIdle => exact decidedBy_perform (iff_and_self.2 fun ⟨⟨live, _⟩, _⟩ => live)
  | parseSlide => exact decidedBy_perform (iff_and_self.2 fun ⟨⟨live, _⟩, _⟩ => live)
  | parseLatch => exact decidedBy_perform (iff_and_self.2 fun ⟨⟨live, _⟩, _⟩ => live)
  | parseTooLarge => exact execParseTooLarge_decidedBy s
  | parseWait => exact execParseWait_decidedBy s
  | tick => exact decidedBy_perform (and_true _).symm.to_iff
  | parseDispatch => exact execParseDispatch_decidedBy s
  | rawForward c => exact decidedBy_perform Iff.rfl
  | dgDropOversize k d => exact decidedBy_perform (iff_and_self.2 fun ⟨⟨live, _⟩, _⟩ => live)
  | dgDropInvalid k d => exact decidedBy_perform (iff_and_self.2 fun ⟨⟨live, _⟩, _⟩ => live)
  | dgFramed k d => exact execDgFramed_decidedBy k d s
  | dgRaw d => exact decidedBy_perform (iff_and_self.2 fun ⟨⟨live, _⟩, _⟩ => live)
  | acquire k => exact execAcquire_decidedBy k s
  | txByte => exact execTxByte_decidedBy s
  | linkFault => exact decidedBy_perform (and_true _).symm.to_iff
  | reset => exact decidedBy_next _ _

/-- Settles O37, by the case split of `exec_decidedBy_guard`. -/
theorem operationsStepExactlyWhereTheirGuardHolds :
    Obligations.OperationsStepExactlyWhereTheirGuardHolds :=
  exec_decidedBy_guard

/-! ### The parameters, the agenda and the offers of a step -/

/-- A step refuses parameters outside R8. -/
theorem step_of_not_valid {s : State} (h : ¬ s.cfg.Valid) : step s = .refused .invalidConfiguration :=
  if_neg h

/-- In a valid configuration a timeout is within R8 exactly where it leaves the timer room to pass it. -/
theorem setTimeout_valid_iff {s : State} (hv : s.cfg.Valid) (t : Nat) :
    (s.setTimeout t).cfg.Valid ↔ t + 2 ≤ 2 ^ s.cfg.tw := by
  obtain ⟨hmin, hmax, hcap, htw, -⟩ := hv
  exact ⟨fun ⟨_, _, _, _, ht⟩ => ht, fun ht => ⟨hmin, hmax, hcap, htw, ht⟩⟩

/-- A RESET is to come where the next cycle holds one or a later one does. -/
theorem resetFollows_cons (cycle : List Event) (later : List (List Event)) :
    resetFollows (cycle :: later) = (cycle.any Event.isReset || resetFollows later) := rfl

/-- An offer that is not enabled lapses (R13; log 3). -/
theorem attempt_of_notEnabled {i : Instr} {s : State} {m : String}
    (h : exec i s = .refused (.notEnabled m)) : attempt i s = .next s := by
  simp [attempt, h]

/-- An offer to a halted block that waits for its RESET lapses (R116; log 4). -/
theorem attempt_of_fault {i : Instr} {s : State}
    (h : exec i s = .fault .linkIoError) : attempt i s = .next s := by
  simp [attempt, h]

/-- An offered RESET is taken in every state (R117, R125). -/
theorem attempt_reset (s : State) : attempt .reset s = .next s.clear := rfl

/-- A reset event that stands alone in its cycle is served in every valid state, halted or not. -/
theorem step_of_resetEvent {s : State} {e : Event} {later : List (List Event)}
    (hv : s.cfg.Valid) (he : e.isReset = true) (ha : s.agenda = [e] :: later) :
    step s = serve e (s.setAgenda later) :=
  advance_of_event hv (.inr (by simp [ha, resetFollows_cons, he])) ha

/-- Settles O50: a step serves the one offered event, and an offer is taken or lapses. -/
theorem stepTakesOrLapsesANamedOperation : Obligations.StepTakesOrLapsesANamedOperation := by
  refine ⟨fun s later i hv ha hrun => ?_, fun s later hv ha => ?_⟩
  · have hstep : step s = attempt i (s.setAgenda later) := advance_of_event hv hrun ha
    rw [hstep]
    exact ⟨fun _ => attempt_of_next, fun _ => attempt_of_notEnabled, attempt_of_fault⟩
  · have hstep : step s = attempt .reset (s.setAgenda later) := step_of_resetEvent hv rfl ha
    rw [hstep, attempt_reset]
    exact ⟨rfl, _, rfl, State.clear_halted _⟩

/-- Settles O54: the four bounds are among those a step tests. -/
theorem nonconformingConfigurationIsRefused : Obligations.NonconformingConfigurationIsRefused :=
  fun _ hbounds => step_of_not_valid fun ⟨hmin, hmax, hcap, _, ht⟩ => hbounds ⟨hmin, hmax, hcap, ht⟩

/-- Settles O55: while `rst = 0` the driven value is compared with the one held, and in a reset with the
bound of R8. -/
theorem timeoutChangesOnlyInReset : Obligations.TimeoutChangesOnlyInReset := by
  refine fun s later v hv => ⟨fun hrun ha => ?_, fun ha => ?_⟩
  · have hwaits : s.halted = false ∨ resetFollows s.agenda = true :=
      hrun.imp_right fun h => by simp [ha, resetFollows_cons, h]
    have hstep : step s = serveTimeout v (s.setAgenda later) := advance_of_event hv hwaits ha
    rw [hstep]
    exact ⟨fun hne => if_neg hne, fun heq => if_pos heq⟩
  · have hstep : step s = serveReset v (s.setAgenda later) := step_of_resetEvent hv rfl ha
    have hbound := setTimeout_valid_iff (s := s.setAgenda later) hv v
    rw [hstep]
    refine ⟨fun hle => ?_, fun hlt => if_neg fun h => absurd (hbound.1 h) (Nat.not_le.2 hlt)⟩
    have htaken : serveReset v (s.setAgenda later) = .next ((s.setAgenda later).setTimeout v).clear :=
      if_pos (hbound.2 hle)
    rw [htaken]
    exact ⟨rfl, _, rfl⟩

end Sys2Proof.Machine

/-! PROOFS. The state of spec/10_state.md: what each agent's operations write (R32) and append (R26), the
invariant of the reachable states (R31), the ready outputs (R27), and the beats of a transfer (R25). -/

namespace Sys2Proof.Machine

/-! ### What an operation can do, agent by agent (R119) -/

/-- The next states of the inbound parser, each with the part of its guard that says what becomes of the
scan buffer; the whole guard is `Guard`. -/
inductive InboundEffect (s : State) : State → Prop where
  /-- RX_CHUNK (R70). -/
  | acceptChunk (c : List Byte) (hframed : s.linkState = .framed)
      (hroom : c.length ≤ s.cfg.bufCap - s.buf.length) :
      InboundEffect s ((s.setBuf (s.buf ++ c)).setScanReq true)
  /-- RAW_FORWARD (R87). -/
  | forward (c : List Byte) : InboundEffect s (s.emit .primary c)
  /-- PARSE_IDLE (R71). -/
  | idle (hshort : s.buf.length < 4) : InboundEffect s (s.setScanReq false)
  /-- PARSE_SLIDE (R72). -/
  | slide (hscan : s.Parsing) : InboundEffect s (slideByte s)
  /-- PARSE_LATCH (R73). -/
  | latch : InboundEffect s (latch s)
  /-- PARSE_TOO_LARGE (R75). -/
  | reject (hscan : s.Parsing) : InboundEffect s (rejectHeader s)
  /-- PARSE_WAIT (R77). -/
  | await (h : Header) (hhead : s.headHeader = some h) (hmax : 4 + h.len.toNat ≤ s.cfg.maxFrame)
      (hshort : s.buf.length < 4 + h.len.toNat) : InboundEffect s (awaitPayload s)
  /-- PARSE_DISPATCH (R86). -/
  | dispatch (hscan : s.Parsing) (k : SubStream) (n : Nat) : InboundEffect s (dispatchFrame s k n)

/-- The next states of outbound agent `k`, each with its guard. -/
inductive OutboundEffect (s : State) (k : SubStream) : State → Prop where
  /-- DG_DROP_OVERSIZE (R94). -/
  | dropOversize : OutboundEffect s k (s.report .oversizedDatagram (some k))
  /-- DG_DROP_INVALID (R95). -/
  | dropInvalid (n : Nat) (hfits : n ≤ s.cfg.maxPayload) (hno : encodeHeader s.cfg k n = none) :
      OutboundEffect s k (s.report .invalidLength (some k))
  /-- DG_FRAMED, or DG_RAW of a datagram that is not empty (R96, R97). -/
  | accept (q : List Byte) (hfree : s.PortFree k) (hne : q ≠ []) (hfits : q.length ≤ s.cfg.maxFrame) :
      OutboundEffect s k (s.setPending k (some q))
  /-- DG_RAW of the empty datagram (R97, R105). -/
  | ignore : OutboundEffect s k s

/-- The next states of every operation. -/
inductive Effect (s : State) : Instr → State → Prop where
  /-- CHECKSUM, ENCODE, DECODE (R63 to R65; log 5). -/
  | codec (i : Instr) (v : CodecResult) : Effect s i (s.setRet v)
  | inbound {i : Instr} {t : State} (hi : Inbound i) (h : InboundEffect s t) : Effect s i t
  | outbound {k : SubStream} {i : Instr} {t : State} (hi : Outbound k i) (h : OutboundEffect s k t) :
      Effect s i t
  /-- TICK (R79). -/
  | tick : Effect s .tick (s.setSinceFrame (min (s.sinceFrame + 1) s.cfg.timerMax))
  /-- ACQUIRE (R100). -/
  | acquire (k : SubStream) (q : List Byte) (hq : s.pending k = some q) (hlock : s.lock = none) :
      Effect s (.acquire k) (((s.setLock (some k)).setWrRem q).setPending k none)
  /-- TX_BYTE (R101). -/
  | write (b : Byte) (rest : List Byte) (hrem : s.wrRem = b :: rest) (hlock : s.lock ≠ none) :
      Effect s .txByte (((s.serOut b).setWrRem rest).setLock (lockAfter s.lock rest))
  /-- LINK_FAULT (R115). -/
  | linkFault : Effect s .linkFault ((s.report .linkIoError none).raiseHalt)
  /-- RESET (R125). -/
  | reset : Effect s .reset s.clear

section Inversion

variable {s t : State}

/-- An operation without its operand answers no next state. -/
theorem perform_false_ne_next {n : String} {u : State} : perform n s False u ≠ .next t :=
  fun h => (perform_eq_next_iff.1 h).2.1

/-- A scan iteration on a window that is no frame slides or latches (R78). -/
theorem scanFailure_effect (hscan : s.Parsing) : InboundEffect s (scanFailure s) := by
  obtain ⟨-, heq⟩ | ⟨-, heq⟩ := scanFailure_cases s
  · exact heq ▸ .latch
  · exact heq ▸ .slide hscan

/-- A scan iteration on a header rejects it, waits for its payload, or dispatches it (R78). -/
theorem scanHeader_effect {h : Header} (hscan : s.Parsing) (hhead : s.headHeader = some h) :
    InboundEffect s (scanHeader s h.tag h.len.toNat) := by
  obtain ⟨-, heq⟩ | ⟨hmax, hshort, heq⟩ | ⟨-, -, heq⟩ := scanHeader_cases s h.tag h.len.toNat
  · exact heq ▸ .reject hscan
  · exact heq ▸ .await h hhead hmax hshort
  · exact heq ▸ .dispatch hscan _ _

theorem execEncode_effect {k : SubStream} {n : Nat} (i : Instr) (h : execEncode k n s = .next t) :
    Effect s i t := by
  unfold execEncode at h
  split at h <;> cases h <;> exact .codec i _

theorem execDecode_effect {b0 b1 b2 b3 : Byte} (i : Instr) (h : execDecode b0 b1 b2 b3 s = .next t) :
    Effect s i t := by
  unfold execDecode at h
  split at h <;> cases h <;> exact .codec i _

theorem execParseTooLarge_effect (h : execParseTooLarge s = .next t) : InboundEffect s t := by
  unfold execParseTooLarge at h
  split at h
  · obtain ⟨-, ⟨hscan, -⟩, rfl⟩ := perform_eq_next_iff.1 h
    exact .reject hscan
  · exact absurd h perform_false_ne_next

theorem execParseWait_effect (h : execParseWait s = .next t) : InboundEffect s t := by
  unfold execParseWait at h
  split at h
  · next hd hhead =>
    obtain ⟨-, ⟨-, hmax, hshort⟩, rfl⟩ := perform_eq_next_iff.1 h
    exact .await hd hhead hmax hshort
  · exact absurd h perform_false_ne_next

theorem execParseDispatch_effect (h : execParseDispatch s = .next t) : InboundEffect s t := by
  unfold execParseDispatch at h
  split at h
  · obtain ⟨-, ⟨hscan, -⟩, rfl⟩ := perform_eq_next_iff.1 h
    exact .dispatch hscan _ _
  · exact absurd h perform_false_ne_next

theorem execDgFramed_effect {k : SubStream} {d : List Byte} (h : execDgFramed k d s = .next t) :
    OutboundEffect s k t := by
  unfold execDgFramed at h
  split at h
  · next hd hhead =>
    obtain ⟨-, ⟨hfree, -, -⟩, rfl⟩ := perform_eq_next_iff.1 h
    obtain ⟨-, hfits, rfl⟩ := (encodeHeader_eq_some_iff _ _ _ _).1 hhead
    exact .accept _ hfree (by simp [headerBytes]) (by simpa using hfits)
  · exact absurd h perform_false_ne_next

theorem execDgRaw_effect {d : List Byte} (h : execDgRaw d s = .next t) :
    OutboundEffect s .primary t := by
  obtain ⟨-, ⟨hfree, -, hfits⟩, rfl⟩ := perform_eq_next_iff.1 h
  split
  · next hd => exact .accept d hfree (List.ne_nil_of_length_pos hd) (hfits.trans (Nat.sub_le _ _))
  · exact .ignore

theorem execAcquire_effect {k : SubStream} (h : execAcquire k s = .next t) :
    Effect s (.acquire k) t := by
  unfold execAcquire at h
  split at h
  · next q hq =>
    obtain ⟨-, hlock, rfl⟩ := perform_eq_next_iff.1 h
    exact .acquire k q hq hlock
  · exact absurd h perform_false_ne_next

theorem execTxByte_effect (h : execTxByte s = .next t) : Effect s .txByte t := by
  unfold execTxByte at h
  split at h
  · next b rest hrem =>
    obtain ⟨-, hlock, rfl⟩ := perform_eq_next_iff.1 h
    exact .write b rest hrem hlock
  · exact absurd h perform_false_ne_next

/-- All an operation can do. -/
theorem exec_effect {i : Instr} (h : exec i s = .next t) : Effect s i t := by
  cases i with
  | hdrPrimary len =>
    obtain ⟨-, ⟨hscan, hclass⟩, rfl⟩ := perform_eq_next_iff.1 h
    exact .inbound trivial
      (scanHeader_effect hscan ((headHeader_eq_some_iff s ⟨.primary, len⟩).2 hclass))
  | hdrSecondary len =>
    obtain ⟨-, ⟨hscan, hclass⟩, rfl⟩ := perform_eq_next_iff.1 h
    exact .inbound trivial
      (scanHeader_effect hscan ((headHeader_eq_some_iff s ⟨.secondary, len⟩).2 hclass))
  | nafMagic b0 b1 b2 b3 =>
    obtain ⟨-, ⟨hscan, -⟩, rfl⟩ := perform_eq_next_iff.1 h
    exact .inbound trivial (scanFailure_effect hscan)
  | nafChecksum b1 b2 b3 =>
    obtain ⟨-, ⟨hscan, -⟩, rfl⟩ := perform_eq_next_iff.1 h
    exact .inbound trivial (scanFailure_effect hscan)
  | checksum b0 b1 b2 => cases h; exact .codec _ _
  | encode k n => exact execEncode_effect _ h
  | decode b0 b1 b2 b3 => exact execDecode_effect _ h
  | rxChunk c =>
    obtain ⟨-, ⟨hframed, -, -, hroom⟩, rfl⟩ := perform_eq_next_iff.1 h
    exact .inbound trivial (.acceptChunk c hframed hroom)
  | parseIdle =>
    obtain ⟨-, ⟨-, hshort⟩, rfl⟩ := perform_eq_next_iff.1 h
    exact .inbound trivial (.idle hshort)
  | parseSlide =>
    obtain ⟨-, ⟨hscan, -⟩, rfl⟩ := perform_eq_next_iff.1 h
    exact .inbound trivial (.slide hscan)
  | parseLatch =>
    obtain ⟨-, -, rfl⟩ := perform_eq_next_iff.1 h
    exact .inbound trivial .latch
  | parseTooLarge => exact .inbound trivial (execParseTooLarge_effect h)
  | parseWait => exact .inbound trivial (execParseWait_effect h)
  | tick =>
    obtain ⟨-, -, rfl⟩ := perform_eq_next_iff.1 h
    exact .tick
  | parseDispatch => exact .inbound trivial (execParseDispatch_effect h)
  | rawForward c =>
    obtain ⟨-, -, rfl⟩ := perform_eq_next_iff.1 h
    exact .inbound trivial (.forward c)
  | dgDropOversize k d =>
    obtain ⟨-, -, rfl⟩ := perform_eq_next_iff.1 h
    exact .outbound (k := k) rfl .dropOversize
  | dgDropInvalid k d =>
    obtain ⟨-, ⟨-, hfits, -, hno⟩, rfl⟩ := perform_eq_next_iff.1 h
    exact .outbound (k := k) rfl (.dropInvalid _ hfits hno)
  | dgFramed k d => exact .outbound (k := k) rfl (execDgFramed_effect h)
  | dgRaw d => exact .outbound (k := .primary) rfl (execDgRaw_effect h)
  | acquire k => exact execAcquire_effect h
  | txByte => exact execTxByte_effect h
  | linkFault =>
    obtain ⟨-, -, rfl⟩ := perform_eq_next_iff.1 h
    exact .linkFault
  | reset => cases h; exact .reset

end Inversion

/-! ### The writers of each element (R32) -/

section Writers

variable {s t : State} {k : SubStream}

/-- The flush writes the histories only. -/
theorem latch_keeps (s : State) :
    (∀ k, (latch s).pending k = s.pending k) ∧ (latch s).lock = s.lock ∧ (latch s).wrRem = s.wrRem ∧
      (latch s).halted = s.halted ∧ (latch s).cfg = s.cfg ∧ (latch s).rxPart = s.rxPart ∧
      ∀ k, (latch s).dgPart k = s.dgPart k := by
  unfold latch flush
  split <;> simp

/-- What the inbound parser leaves to the other agents. -/
theorem InboundEffect.keeps (h : InboundEffect s t) :
    (∀ k, t.pending k = s.pending k) ∧ t.lock = s.lock ∧ t.wrRem = s.wrRem ∧ t.halted = s.halted ∧
      t.cfg = s.cfg ∧ t.rxPart = s.rxPart ∧ ∀ k, t.dgPart k = s.dgPart k := by
  cases h with
  | acceptChunk c => simp
  | forward c => simp
  | idle => simp
  | slide => simp [slideByte]
  | latch => exact latch_keeps s
  | reject => simp [rejectHeader]
  | await => simp [awaitPayload]
  | dispatch => simp [dispatchFrame]

/-- An outbound agent writes its own pending sequence only. -/
theorem OutboundEffect.keeps (h : OutboundEffect s k t) :
    t.buf = s.buf ∧ t.scanReq = s.scanReq ∧ t.linkState = s.linkState ∧ t.sinceFrame = s.sinceFrame ∧
      (∀ j, t.pending j ≠ s.pending j → j = k) ∧ t.lock = s.lock ∧ t.wrRem = s.wrRem ∧
      t.halted = s.halted ∧ t.cfg = s.cfg ∧ t.rxPart = s.rxPart ∧ ∀ j, t.dgPart j = s.dgPart j := by
  cases h with
  | dropOversize => simp
  | dropInvalid => simp
  | accept q => simp [State.setPending_pending]
  | ignore => simp

/-- Settles O40: each agent's effects, and what they leave. -/
theorem eachElementHasItsWriters : Obligations.EachElementHasItsWriters := by
  intro i s t h hreset
  cases exec_effect h with
  | codec v => simp
  | inbound hi he =>
    obtain ⟨hpending, hlock, hrem, hhalted, hrest⟩ := he.keeps
    exact ⟨fun _ => hi, fun _ => .inl hi, fun k hk => absurd (hpending k) hk, by simp [hlock, hrem],
      absurd hhalted, hrest⟩
  | outbound hi he =>
    obtain ⟨hbuf, hscan, hlink, htimer, hpending, hlock, hrem, hhalted, hrest⟩ := he.keeps
    exact ⟨by simp [hbuf, hscan, hlink], absurd htimer, fun j hj => .inl (hpending j hj ▸ hi),
      by simp [hlock, hrem], absurd hhalted, hrest⟩
  | tick => simp
  | acquire k q => simp +contextual [State.setPending_pending]
  | write b rest => simp
  | linkFault => simp
  | reset => exact absurd rfl hreset

end Writers
/-! ### The histories (R26) -/

section Histories

variable {s t u : State}

/-- Each history of `s` begins the same history of `t`. -/
def HistoriesExtend (s t : State) : Prop :=
  (∀ k, s.outHist k <+: t.outHist k) ∧ s.dispHist <+: t.dispHist ∧ s.serHist <+: t.serHist ∧
    s.errHist <+: t.errHist

theorem HistoriesExtend.refl (s : State) : HistoriesExtend s s := by simp [HistoriesExtend]

theorem HistoriesExtend.trans (h : HistoriesExtend s t) (h' : HistoriesExtend t u) :
    HistoriesExtend s u := by
  obtain ⟨hout, hdisp, hser, herr⟩ := h
  obtain ⟨hout', hdisp', hser', herr'⟩ := h'
  exact ⟨fun k => (hout k).trans (hout' k), hdisp.trans hdisp', hser.trans hser', herr.trans herr'⟩

theorem historiesExtend_emit (s : State) (k : SubStream) (p : List Byte) :
    HistoriesExtend s (s.emit k p) := by
  refine ⟨fun j => ?_, by simp⟩
  rw [State.emit_outHist]
  split <;> simp

theorem historiesExtend_latch (s : State) : HistoriesExtend s (latch s) := by
  have hflush : HistoriesExtend s (flush s (s.buf.drop 1)) := by
    unfold flush
    split
    · exact .refl s
    · exact historiesExtend_emit _ _ _
  exact hflush.trans (by simp [HistoriesExtend, latch])

theorem InboundEffect.historiesExtend (h : InboundEffect s t) : HistoriesExtend s t := by
  cases h with
  | acceptChunk c => simp [HistoriesExtend]
  | forward c => exact historiesExtend_emit _ _ _
  | idle => simp [HistoriesExtend]
  | slide => simp [HistoriesExtend, slideByte]
  | latch => exact historiesExtend_latch s
  | reject => simp [HistoriesExtend, rejectHeader]
  | await => simp [HistoriesExtend, awaitPayload]
  | dispatch _ k n =>
    refine (historiesExtend_emit s k (payloadAt s.buf n)).trans ?_
    simp [HistoriesExtend, dispatchFrame, State.emit_outHist]

theorem OutboundEffect.historiesExtend {k : SubStream} (h : OutboundEffect s k t) :
    HistoriesExtend s t := by
  cases h with
  | dropOversize => simp [HistoriesExtend]
  | dropInvalid => simp [HistoriesExtend]
  | accept => simp [HistoriesExtend]
  | ignore => exact .refl _

theorem Effect.historiesExtend {i : Instr} (h : Effect s i t) : HistoriesExtend s t := by
  cases h with
  | codec => simp [HistoriesExtend]
  | inbound _ he => exact he.historiesExtend
  | outbound _ he => exact he.historiesExtend
  | tick => simp [HistoriesExtend]
  | acquire => simp [HistoriesExtend]
  | write => simp [HistoriesExtend]
  | linkFault => simp [HistoriesExtend]
  | reset => simp [HistoriesExtend]

theorem serve_historiesExtend {e : Event} (h : serve e s = .next t) : HistoriesExtend s t := by
  obtain ⟨u, hu, ht⟩ | ⟨v, -, rfl⟩ := serve_eq_next h
  · have hsu : HistoriesExtend s u := by
      obtain rfl | ⟨v, -, rfl⟩ | ⟨k, v, rfl⟩ := hu
      · exact .refl _
      · simp [HistoriesExtend]
      · simp [HistoriesExtend]
    obtain ⟨i, hi⟩ | rfl := ht
    · exact hsu.trans (exec_effect hi).historiesExtend
    · exact hsu
  · simp [HistoriesExtend]

/-- Settles O41: every operation appends, and so does every event served. -/
theorem historiesOnlyGrow : Obligations.HistoriesOnlyGrow := by
  intro s t h
  obtain ⟨-, a, ht⟩ := advance_eq_next h
  have hsa : HistoriesExtend s (s.setAgenda a) := by simp [HistoriesExtend]
  obtain rfl | ⟨e, he⟩ := ht
  · exact hsa
  · exact hsa.trans (serve_historiesExtend he)

end Histories

/-! ### The invariant of the reachable states (R31) -/

section Invariant

variable {s t : State}

/-! #### The writes that keep it -/

theorem State.Inv.setAgenda (hs : s.Inv) (a : List (List Event)) : (s.setAgenda a).Inv := { hs with }

theorem State.Inv.setRet (hs : s.Inv) (v : CodecResult) : (s.setRet v).Inv := { hs with }

theorem State.Inv.setRxPart (hs : s.Inv) {v : List Byte} (hv : v.length < s.cfg.bufCap) :
    (s.setRxPart v).Inv := { hs with transferFits := hv }

theorem State.Inv.setDgPart (hs : s.Inv) (k : SubStream) (v : List Byte) : (s.setDgPart k v).Inv := by
  cases k
  · exact { hs with }
  · exact { hs with }

theorem State.Inv.setSinceFrame (hs : s.Inv) {v : Nat} (hv : v ≤ s.cfg.timerMax) :
    (s.setSinceFrame v).Inv := { hs with timerFits := hv }

/-- While the scan loop runs, the buffer is bounded by its capacity alone. -/
theorem State.Inv.setBuf (hs : s.Inv) (hframed : s.linkState = .framed) (hscan : s.scanReq = true)
    {v : List Byte} (hv : v.length ≤ s.cfg.bufCap) : (s.setBuf v).Inv :=
  { hs with
    bufFits := hv
    passthroughIdle := fun h => absurd (hframed.symm.trans h) (by decide)
    waiting := fun h => absurd (hscan.symm.trans h) (by decide) }

theorem State.Inv.startScan (hs : s.Inv) (hframed : s.linkState = .framed) : (s.setScanReq true).Inv :=
  { hs with
    passthroughIdle := fun h => absurd (hframed.symm.trans h) (by decide)
    waiting := fun h => absurd h (by simp) }

/-- The scan loop may stop where the parser waits: with no window, or with a header whose payload is
still to come (R31(e)). -/
theorem State.Inv.stopScan (hs : s.Inv)
    (hwait : s.buf.length < 4 ∨ ∃ h, s.headHeader = some h ∧ 4 + h.len.toNat ≤ s.cfg.maxFrame ∧
      s.buf.length < 4 + h.len.toNat) : (s.setScanReq false).Inv :=
  { hs with
    passthroughIdle := fun h => ⟨(hs.passthroughIdle h).1, rfl⟩
    waiting := fun _ _ => hwait }

/-- A packet goes to its port's history and, under the port's number, to the dispatch history (R12). -/
theorem State.Inv.emit (hs : s.Inv) (k : SubStream) (p : List Byte) : (s.emit k p).Inv := by
  have hhist : ∀ j, (s.emit k p).outHist j =
      ((s.emit k p).dispHist.filter (fun e => e.1 = j)).map (fun e => e.2) := by
    intro j
    rw [State.emit_outHist, State.emit_dispHist, List.filter_append, List.map_append, ← hs.histories j]
    by_cases hjk : j = k
    · simp [hjk]
    · simp [hjk, Ne.symm hjk]
  cases k
  · exact { hs with histories := hhist }
  · exact { hs with histories := hhist }

/-- The error events a conforming block can emit (R95, R111, R124). -/
def ConformingError (e : ErrorEvent) : Prop :=
  e = ⟨.frameTooLarge, none⟩ ∨ e = ⟨.linkIoError, none⟩ ∨ ∃ k, e = ⟨.oversizedDatagram, some k⟩

theorem State.Inv.report (hs : s.Inv) {c : ErrorCode} {k : Option SubStream}
    (he : ConformingError ⟨c, k⟩) : (s.report c k).Inv :=
  { hs with
    errors := fun e hmem => (List.mem_append.1 hmem).elim (hs.errors e) fun h =>
      List.mem_singleton.1 h ▸ he
    haltReported := fun h => List.mem_append_left _ (hs.haltReported h) }

theorem State.Inv.raiseHalt (hs : s.Inv) (hreported : ⟨.linkIoError, none⟩ ∈ s.errHist) :
    (s.raiseHalt).Inv := { hs with haltReported := fun _ => hreported }

/-- A reset empties what the clauses bound, and keeps the histories (R125). -/
theorem State.Inv.clear (hs : s.Inv) : s.clear.Inv :=
  { hs with
    bufFits := Nat.zero_le _
    passthroughIdle := fun _ => ⟨rfl, rfl⟩
    lockHeld := iff_of_true rfl rfl
    remFits := Nat.zero_le _
    pendingFits := fun k q h => absurd (s.clear_pending k ▸ h) (by simp)
    waiting := fun _ _ => .inl (by simp)
    timerFits := Nat.zero_le _
    haltReported := fun h => absurd h (by simp)
    transferFits := by
      have := hs.transferFits
      simp only [State.clear_rxPart, State.clear_cfg, List.length_nil]
      omega }

/-! #### The effects that keep it -/

/-- R8 bounds the payload by the length field, so a payload that fits has a header (R95). -/
theorem encodeHeader_ne_none_of_valid {p : Params} (hp : p.Valid) (k : SubStream) {n : Nat}
    (hn : n ≤ p.maxPayload) : encodeHeader p k n ≠ none := by
  obtain ⟨hmin, hmax, -⟩ := hp
  rw [Ne, encodeHeader_eq_none_iff]
  unfold Params.maxPayload at hn
  omega

/-- The latch leaves the buffer empty and the scan loop stopped, as Passthrough asks (R31(b)). -/
theorem State.Inv.latch (hs : s.Inv) : (latch s).Inv := by
  have hflush : (flush s (s.buf.drop 1)).Inv := by
    unfold flush
    split
    · exact hs
    · exact hs.emit _ _
  exact { hflush with
    bufFits := Nat.zero_le _
    passthroughIdle := fun _ => ⟨rfl, rfl⟩
    waiting := fun _ h => absurd h (by simp [Machine.latch]) }

theorem InboundEffect.inv (h : InboundEffect s t) (hs : s.Inv) : t.Inv := by
  have hfits := hs.bufFits
  cases h with
  | acceptChunk c hframed hroom =>
    exact (hs.startScan hframed).setBuf hframed rfl (v := s.buf ++ c)
      (by simp only [List.length_append, State.setScanReq_cfg]; omega)
  | forward c => exact hs.emit _ _
  | idle hshort => exact hs.stopScan (.inl hshort)
  | slide hscan =>
    obtain ⟨-, hframed, hreq⟩ := hscan
    exact hs.setBuf hframed hreq (by simp only [List.length_drop]; omega)
  | latch => exact hs.latch
  | reject hscan =>
    obtain ⟨-, hframed, hreq⟩ := hscan
    exact ((hs.setSinceFrame (Nat.zero_le _)).report (.inl rfl)).setBuf hframed hreq
      ((resync_suffix _).length_le.trans hfits)
  | await h hhead hmax hshort =>
    exact (hs.setSinceFrame (Nat.zero_le _)).stopScan (.inr ⟨h, hhead, hmax, hshort⟩)
  | dispatch hscan k n =>
    obtain ⟨-, hframed, hreq⟩ := hscan
    exact ((hs.setSinceFrame (Nat.zero_le _)).emit k _).setBuf (by simpa using hframed)
      (by simpa using hreq) (by simp only [List.length_drop, State.emit_cfg, State.setSinceFrame_cfg]; omega)

theorem OutboundEffect.inv {k : SubStream} (h : OutboundEffect s k t) (hs : s.Inv) : t.Inv := by
  cases h with
  | dropOversize => exact hs.report (.inr (.inr ⟨k, rfl⟩))
  | dropInvalid n hfits hno => exact absurd hno (encodeHeader_ne_none_of_valid hs.config k hfits)
  | accept q hfree hne hfits =>
    obtain ⟨-, -, hlock⟩ := hfree
    have hpending : ∀ j r, (s.setPending k (some q)).pending j = some r →
        r ≠ [] ∧ r.length ≤ s.cfg.maxFrame ∧ s.lock ≠ some j := by
      intro j r hr
      rw [State.setPending_pending] at hr
      split at hr
      · next hjk =>
        cases hr
        exact ⟨hne, hfits, hjk ▸ hlock⟩
      · exact hs.pendingFits j r hr
    cases k
    · exact { hs with pendingFits := hpending }
    · exact { hs with pendingFits := hpending }
  | ignore => exact hs

/-- The granted sequence becomes the rest to write, and no longer waits (R100). -/
theorem State.Inv.acquire (hs : s.Inv) {k : SubStream} {q : List Byte} (hq : s.pending k = some q) :
    (((s.setLock (some k)).setWrRem q).setPending k none).Inv := by
  obtain ⟨hne, hfits, -⟩ := hs.pendingFits k q hq
  have hpending : ∀ j r, (((s.setLock (some k)).setWrRem q).setPending k none).pending j = some r →
      r ≠ [] ∧ r.length ≤ s.cfg.maxFrame ∧ some k ≠ some j := by
    intro j r hr
    rw [State.setPending_pending] at hr
    split at hr
    · cases hr
    · next hjk =>
      obtain ⟨hne', hfits', -⟩ := hs.pendingFits j r (by simpa using hr)
      exact ⟨hne', hfits', fun h => hjk (Option.some.inj h).symm⟩
  have hheld : some k = none ↔ q = [] := iff_of_false (by simp) hne
  cases k
  · exact { hs with lockHeld := hheld, remFits := hfits, pendingFits := hpending }
  · exact { hs with lockHeld := hheld, remFits := hfits, pendingFits := hpending }

/-- The lock is released exactly with the last byte (R101). -/
theorem State.Inv.write (hs : s.Inv) {b : Byte} {rest : List Byte} (hrem : s.wrRem = b :: rest)
    (hlock : s.lock ≠ none) :
    (((s.serOut b).setWrRem rest).setLock (lockAfter s.lock rest)).Inv :=
  { hs with
    lockHeld := by simp [lockAfter, hlock]
    remFits := by
      have hfits := hs.remFits
      simp only [hrem, List.length_cons] at hfits
      exact (Nat.le_succ _).trans hfits
    pendingFits := fun k q hq => by
      obtain ⟨hne, hfits, hfree⟩ := hs.pendingFits k q (by simpa using hq)
      refine ⟨hne, hfits, ?_⟩
      simp only [State.setLock_lock, lockAfter]
      split
      · simp
      · exact hfree }

theorem Effect.inv {i : Instr} (h : Effect s i t) (hs : s.Inv) : t.Inv := by
  cases h with
  | codec _ v => exact hs.setRet v
  | inbound _ he => exact he.inv hs
  | outbound _ he => exact he.inv hs
  | tick => exact hs.setSinceFrame (Nat.min_le_right _ _)
  | acquire k q hq => exact hs.acquire hq
  | write b rest hrem hlock => exact hs.write hrem hlock
  | linkFault => exact (hs.report (.inr (.inl rfl))).raiseHalt (by simp)
  | reset => exact hs.clear

/-- A reset with a driven timeout keeps the invariant where the timeout satisfies R8 (R128). -/
theorem State.Inv.setTimeout (hs : s.Inv) {v : Nat} (hv : (s.setTimeout v).cfg.Valid) :
    (s.setTimeout v).Inv := { hs with config := hv }

theorem serve_inv {e : Event} (h : serve e s = .next t) (hs : s.Inv) : t.Inv := by
  obtain ⟨u, hu, ht⟩ | ⟨v, hv, rfl⟩ := serve_eq_next h
  · have hinv : u.Inv := by
      obtain rfl | ⟨v, hv, rfl⟩ | ⟨k, v, rfl⟩ := hu
      · exact hs
      · exact hs.setRxPart (hv hs.transferFits)
      · exact hs.setDgPart k v
    obtain ⟨i, hi⟩ | rfl := ht
    · exact (exec_effect hi).inv hinv
    · exact hinv
  · exact (hs.setTimeout hv).clear

/-- Settles O47: every operation's effect keeps the invariant, and so does holding the bytes of a
transfer within its bound. -/
theorem invariantIsKeptByEveryStep : Obligations.InvariantIsKeptByEveryStep := by
  intro s t hs h
  obtain ⟨-, a, rfl | ⟨e, he⟩⟩ := advance_eq_next h
  · exact hs.setAgenda a
  · exact serve_inv he (hs.setAgenda a)

/-- Settles O48: at reset nothing is buffered, pending, held or reported. -/
theorem invariantHoldsAtReset : Obligations.InvariantHoldsAtReset where
  config := by decide
  bufFits := Nat.zero_le _
  passthroughIdle := fun _ => ⟨rfl, rfl⟩
  lockHeld := iff_of_true rfl rfl
  remFits := Nat.zero_le _
  pendingFits := fun k q h => by cases k <;> cases h
  waiting := fun _ _ => .inl (by decide)
  timerFits := Nat.zero_le _
  histories := fun k => by cases k <;> rfl
  errors := fun e he => by cases he
  haltReported := fun h => by cases h
  transferFits := by decide

/-- Settles O36: every value is read off the reset state. -/
theorem resetStateHoldsTheResetValues : Obligations.ResetStateHoldsTheResetValues := by
  unfold Obligations.ResetStateHoldsTheResetValues
  decide

end Invariant

/-! ### Ready outputs and the operations they announce (R27) -/

section Ready

variable {s : State} {k : SubStream}

/-- An operation answers a next state exactly where its guard holds. -/
theorem exec_enabled_iff {i : Instr} : (∃ t, exec i s = .next t) ↔ Guard s i :=
  (exec_decidedBy_guard i s).1

theorem dgInReady_iff : s.dgInReady k = true ↔ s.PortFree k := decide_eq_true_iff

/-- The serial port is ready in a live block with free space, in Framed between two scans only (R131). -/
theorem serRxReady_iff :
    s.serRxReady = true ↔
      s.halted = false ∧ 1 ≤ s.serialRoom ∧ (s.linkState = .framed → s.scanReq = false) := by
  unfold State.serRxReady
  cases hl : s.linkState
  · simp only [Bool.and_eq_true, Bool.not_eq_true', decide_eq_true_iff, true_imp_iff]
    tauto
  · simp

/-- A ready serial port takes a chunk of one byte, by the operation of its link state (R82). -/
theorem serRxReady_iff_accepts :
    s.serRxReady = true ↔
      ∃ c t, exec (.rxChunk c) s = .next t ∨ exec (.rawForward c) s = .next t := by
  rw [serRxReady_iff]
  constructor
  · rintro ⟨hlive, hroom, hidle⟩
    refine ⟨[0], ?_⟩
    rw [exists_or, exec_enabled_iff, exec_enabled_iff]
    cases hl : s.linkState
    · exact .inl ⟨hlive, hl, hidle hl, Nat.le_refl 1, by simpa [State.serialRoom, hl] using hroom⟩
    · exact .inr ⟨hlive, hl, Nat.le_refl 1, by simpa [State.serialRoom, hl] using hroom⟩
  · rintro ⟨c, t, h | h⟩
    · obtain ⟨hlive, hl, hidle, hne, hroom⟩ := exec_enabled_iff.1 ⟨t, h⟩
      exact ⟨hlive, by simpa [State.serialRoom, hl] using hne.trans hroom, fun _ => hidle⟩
    · obtain ⟨hlive, hl, hne, hroom⟩ := exec_enabled_iff.1 ⟨t, h⟩
      exact ⟨hlive, by simpa [State.serialRoom, hl] using hne.trans hroom, by simp [hl]⟩

/-- On a free port the operation that the table of R98 names is enabled. -/
theorem selectDatagram_guard (hfree : s.PortFree k) (d : List Byte) :
    Guard s (selectDatagram k d s) := by
  unfold selectDatagram
  split
  · next hover => exact ⟨hfree, hover⟩
  · next hfits =>
    rw [Nat.not_lt] at hfits
    split
    · next hraw =>
      obtain ⟨rfl, hlink⟩ := hraw
      exact ⟨hfree, hlink, hfits⟩
    · next hframes =>
      have hframes : s.Frames k := by
        cases k
        · cases hl : s.linkState
          · exact .inr hl
          · exact absurd ⟨rfl, hl⟩ hframes
        · exact .inl rfl
      split
      · next hno => exact ⟨hfree, hfits, hframes, hno⟩
      · next hsome => exact ⟨hfree, hfits, hframes, hsome⟩

/-- The table of R98 names one of the four acceptance operations, DG_RAW on the primary port only. -/
theorem selectDatagram_cases (s : State) (k : SubStream) (d : List Byte) :
    selectDatagram k d s = .dgDropOversize k d ∨ (k = .primary ∧ selectDatagram k d s = .dgRaw d) ∨
      selectDatagram k d s = .dgDropInvalid k d ∨ selectDatagram k d s = .dgFramed k d := by
  unfold selectDatagram
  split
  · exact .inl rfl
  · split
    · next hraw => exact .inr (.inl ⟨hraw.1, rfl⟩)
    · split
      · exact .inr (.inr (.inl rfl))
      · exact .inr (.inr (.inr rfl))

/-- A datagram port is free exactly where some datagram is accepted; the empty one always is (R93). -/
theorem portFree_iff_accepts :
    s.PortFree k ↔ ∃ d t, exec (.dgDropOversize k d) s = .next t ∨
      (k = .primary ∧ exec (.dgRaw d) s = .next t) ∨
      exec (.dgDropInvalid k d) s = .next t ∨ exec (.dgFramed k d) s = .next t := by
  constructor
  · intro hfree
    obtain ⟨t, ht⟩ := exec_enabled_iff.2 (selectDatagram_guard hfree [])
    refine ⟨[], t, ?_⟩
    obtain hi | ⟨hk, hi⟩ | hi | hi := selectDatagram_cases s k []
    · exact .inl (hi ▸ ht)
    · exact .inr (.inl ⟨hk, hi ▸ ht⟩)
    · exact .inr (.inr (.inl (hi ▸ ht)))
    · exact .inr (.inr (.inr (hi ▸ ht)))
  · rintro ⟨d, t, h | ⟨rfl, h⟩ | h | h⟩ <;> exact (exec_enabled_iff.1 ⟨t, h⟩).1

/-- The levels of `link_state_o` and `halted_o`, whatever `rst` is. -/
theorem outputs_status (s : State) (rst : Bool) :
    ((s.outputs rst).linkStateO = 1 ↔ s.linkState = .passthrough) ∧
      ((s.outputs rst).haltedO = 1 ↔ s.halted = true) := by
  unfold State.outputs
  constructor
  · cases s.linkState <;> simp [linkStateBit]
  · cases s.halted <;> simp

/-- Settles O56: each ready output is the guard of the operations behind its port. -/
theorem readyMeansAnOperationIsEnabled : Obligations.ReadyMeansAnOperationIsEnabled := by
  refine fun s => ⟨outputs_status s, ⟨rfl, rfl, rfl, rfl⟩, serRxReady_iff_accepts, ?_, ?_⟩
  · exact (dgInReady_iff.trans portFree_iff_accepts).trans (by simp)
  · exact (dgInReady_iff.trans portFree_iff_accepts).trans (by simp)

end Ready

/-! ### Beats (R25) -/

section Beats

variable {s : State} {k : SubStream}

/-- Every offer is answered: the operation is taken, or the offer lapses (log 3). -/
theorem attempt_answers (i : Instr) (s : State) : ∃ t, attempt i s = .next t := by
  obtain ⟨hiff, hrefused, hfault⟩ := exec_decidedBy_guard i s
  by_cases hg : Guard s i
  · obtain ⟨t, ht⟩ := hiff.2 hg
    exact ⟨t, attempt_of_next ht⟩
  · cases hh : s.halted
    · obtain ⟨m, hm⟩ := hrefused hg hh
      exact ⟨s, attempt_of_notEnabled hm⟩
    · exact ⟨s, attempt_of_fault (hfault hg hh)⟩

@[simp] theorem serveAll_singleton (e : Event) (s : State) : serveAll [e] s = serve e s := by
  unfold serveAll
  cases serve e s <;> rfl

theorem serveAll_cons_of_next {e : Event} {es : List Event} {t : State} (h : serve e s = .next t) :
    serveAll (e :: es) s = serveAll es t := by
  rw [serveAll, h]

/-! #### One beat of a datagram port -/

@[simp] theorem setDgPart_dgInReady (s : State) (k j : SubStream) (v : List Byte) :
    (s.setDgPart k v).dgInReady j = s.dgInReady j := by
  simp [State.dgInReady]

/-- The table of R98 does not look at the bytes in transfer. -/
@[simp] theorem selectDatagram_setDgPart (s : State) (k j : SubStream) (d v : List Byte) :
    selectDatagram k d (s.setDgPart j v) = selectDatagram k d s := by
  simp [selectDatagram]

@[simp] theorem setDgPart_same (s : State) (k : SubStream) : s.setDgPart k (s.dgPart k) = s := by
  cases k <;> rfl

theorem setDgPart_setAgenda (s : State) (k : SubStream) (v : List Byte) (a : List (List Event)) :
    (s.setDgPart k v).setAgenda a = (s.setAgenda a).setDgPart k v := by
  cases k <;> rfl

/-- What is in transfer when a packet ends is gone after it. -/
@[simp] theorem endPacket_setDgPart (s : State) (k : SubStream) (d v : List Byte) :
    endPacket k d (s.setDgPart k v) = endPacket k d s := by
  simp [endPacket]

/-- With no transfer in progress, a packet that ends is a packet that arrives. -/
theorem endPacket_of_no_transfer (hpart : s.dgPart k = []) (d : List Byte) :
    endPacket k d s = serve (.datagramIn k d) s := by
  simp only [endPacket, serve, State.setDgPart_eq_self s k hpart]

theorem endPacket_answers (k : SubStream) (d : List Byte) (s : State) :
    ∃ t, endPacket k d s = .next t := attempt_answers _ _

theorem serve_datagramBeat_of_not_ready (hready : s.dgInReady k = false) (b : PacketBeat) :
    serve (.datagramBeat k b) s = .next s :=
  if_neg (by simp [hready])

theorem serve_byte (hready : s.dgInReady k = true) (x : Byte) :
    serve (.datagramBeat k (.byte x false)) s = .next (s.setDgPart k (s.dgPart k ++ [x])) :=
  if_pos hready

theorem serve_lastByte (hready : s.dgInReady k = true) (x : Byte) :
    serve (.datagramBeat k (.byte x true)) s = endPacket k (s.dgPart k ++ [x]) s :=
  if_pos hready

theorem serve_lastEmpty (hready : s.dgInReady k = true) :
    serve (.datagramBeat k (.empty true)) s = endPacket k (s.dgPart k) s :=
  if_pos hready

theorem serve_emptyWithoutLast (hready : s.dgInReady k = true) :
    serve (.datagramBeat k (.empty false)) s = .refused .emptyBeatWithoutLast :=
  if_pos hready

/-! #### The beats of a packet -/

/-- Bytes without `last` are all held. -/
theorem serveAll_bytes (p : List Byte) (es : List Event) (hready : s.dgInReady k = true) :
    serveAll ((p.map (fun x => PacketBeat.byte x false)).map (.datagramBeat k) ++ es) s =
      serveAll es (s.setDgPart k (s.dgPart k ++ p)) := by
  induction p generalizing s with
  | nil => simp
  | cons x p ih =>
    rw [List.map_cons, List.map_cons, List.cons_append, serveAll_cons_of_next (serve_byte hready x),
      ih (by simpa using hready)]
    simp

/-- The last byte of an emitted packet carries `last` (log 20). -/
theorem packetBeats_concat (p : List Byte) (b : Byte) :
    packetBeats (p ++ [b]) = p.map (fun x => PacketBeat.byte x false) ++ [.byte b true] := by
  induction p with
  | nil => rfl
  | cons x p ih =>
    have hcons : packetBeats (x :: (p ++ [b])) = .byte x false :: packetBeats (p ++ [b]) := by
      cases p <;> rfl
    rw [List.cons_append, hcons, ih]
    rfl

/-- Bytes without `last` and then an empty last beat are a packet that arrives. -/
theorem serveAll_bytes_lastEmpty (hready : s.dgInReady k = true) (hpart : s.dgPart k = [])
    (p : List Byte) :
    serveAll ((p.map (fun x => PacketBeat.byte x false) ++ [PacketBeat.empty true]).map (.datagramBeat k)) s =
      serve (.datagramIn k p) s := by
  rw [List.map_append, serveAll_bytes p _ hready, List.map_singleton, serveAll_singleton,
    serve_lastEmpty (by simpa using hready), endPacket_setDgPart, endPacket_of_no_transfer hpart]
  simp [hpart]

/-- So are bytes without `last` and then one with it. -/
theorem serveAll_bytes_lastByte (hready : s.dgInReady k = true) (hpart : s.dgPart k = [])
    (p : List Byte) (b : Byte) :
    serveAll ((p.map (fun x => PacketBeat.byte x false) ++ [PacketBeat.byte b true]).map (.datagramBeat k)) s =
      serve (.datagramIn k (p ++ [b])) s := by
  rw [List.map_append, serveAll_bytes p _ hready, List.map_singleton, serveAll_singleton,
    serve_lastByte (by simpa using hready), endPacket_setDgPart, endPacket_of_no_transfer hpart]
  simp [hpart]

theorem serveAll_packetBeats (hready : s.dgInReady k = true) (hpart : s.dgPart k = [])
    (p : List Byte) :
    serveAll ((packetBeats p).map (.datagramBeat k)) s = serve (.datagramIn k p) s := by
  obtain rfl | ⟨q, b, rfl⟩ := List.eq_nil_or_concat p
  · exact serveAll_bytes_lastEmpty hready hpart []
  · rw [List.concat_eq_append, packetBeats_concat, serveAll_bytes_lastByte hready hpart]

/-! #### One beat of the serial port, and the beats of a chunk -/

theorem serve_serialBeat_of_not_ready (hready : s.serRxReady = false) (b : SerialBeat) :
    serve (.serialBeat b) s = .next s :=
  if_neg (by simp [hready])

/-- A beat without `last` that leaves free space is held. -/
theorem serve_heldSerialBeat (hready : s.serRxReady = true) {b : SerialBeat} (hlast : b.last = false)
    (hroom : s.rxPart.length + 1 < s.serialRoom) :
    serve (.serialBeat b) s = .next (s.setRxPart (s.rxPart ++ [b.data])) := by
  have hheld : ¬ (b.last = true ∨ s.serialRoom ≤ (s.rxPart ++ [b.data]).length) := by
    simpa [hlast] using hroom
  exact (if_pos hready).trans (if_neg hheld)

/-- A beat with `last`, or one that fills the free space, ends the chunk, which arrives. -/
theorem serve_lastSerialBeat (hready : s.serRxReady = true) {b : SerialBeat}
    (hend : b.last = true ∨ s.serialRoom ≤ s.rxPart.length + 1) :
    serve (.serialBeat b) s = serve (.serialIn ((s.rxPart ++ [b.data]).take s.serialRoom))
      (s.setRxPart ((s.rxPart ++ [b.data]).drop s.serialRoom)) := by
  have hends : b.last = true ∨ s.serialRoom ≤ (s.rxPart ++ [b.data]).length := by simpa using hend
  exact (if_pos hready).trans (if_pos hends)

/-- Bytes that leave free space are all held. -/
theorem serveAll_serialBytes (bytes : List Byte) (es : List Event) (hready : s.serRxReady = true)
    (hroom : s.rxPart.length + bytes.length < s.serialRoom) :
    serveAll ((bytes.map (fun x => (⟨x, false⟩ : SerialBeat))).map .serialBeat ++ es) s =
      serveAll es (s.setRxPart (s.rxPart ++ bytes)) := by
  induction bytes generalizing s with
  | nil => rw [List.append_nil]; rfl
  | cons x bytes ih =>
    rw [List.length_cons] at hroom
    have hheld := serve_heldSerialBeat hready (b := ⟨x, false⟩) rfl (by omega)
    have hroom' : (s.setRxPart (s.rxPart ++ [x])).rxPart.length + bytes.length < s.serialRoom := by
      simp only [State.setRxPart_rxPart, List.length_append, List.length_singleton]
      omega
    have hrest := ih (s := s.setRxPart (s.rxPart ++ [x])) hready hroom'
    rw [State.setRxPart_rxPart, List.append_assoc] at hrest
    rw [List.map_cons, List.map_cons, List.cons_append, serveAll_cons_of_next hheld]
    exact hrest

/-- A chunk that ends at `last` or at the beat that fills the free space arrives whole. -/
theorem serveAll_chunkBeats (hready : s.serRxReady = true) (hpart : s.rxPart = [])
    {bytes : List Byte} (hroom : bytes.length < s.serialRoom) {b : Byte} {l : Bool}
    (hend : l = true ∨ bytes.length + 1 = s.serialRoom) :
    serveAll ((bytes.map (fun x => (⟨x, false⟩ : SerialBeat)) ++ [(⟨b, l⟩ : SerialBeat)]).map .serialBeat) s =
      serve (.serialIn (bytes ++ [b])) s := by
  have hheld : s.setRxPart (s.rxPart ++ bytes) = s.setRxPart bytes := by rw [hpart, List.nil_append]
  have hlen : (bytes ++ [b]).length ≤ s.serialRoom := by simpa using hroom
  have hlast : serve (.serialBeat ⟨b, l⟩) (s.setRxPart bytes) =
      serve (.serialIn ((bytes ++ [b]).take s.serialRoom))
        (s.setRxPart ((bytes ++ [b]).drop s.serialRoom)) :=
    serve_lastSerialBeat (s := s.setRxPart bytes) hready (hend.imp_right fun h => h.ge)
  rw [List.map_append, serveAll_serialBytes bytes _ hready (by simpa [hpart] using hroom), hheld,
    List.map_singleton, serveAll_singleton, hlast, List.take_of_length_le hlen,
    List.drop_of_length_le hlen, State.setRxPart_eq_self s hpart]

/-- Settles O57: the beats before the last are held, and the last one ends the transfer as an arrival. -/
theorem beatsCarryTheirPacket : Obligations.BeatsCarryTheirPacket := by
  refine ⟨fun s k p hlive hpending hlock hpart => ?_, fun s bytes b l hready hpart hroom hend => ?_⟩
  · have hready : s.dgInReady k = true := dgInReady_iff.2 ⟨hlive, hpending, hlock⟩
    exact ⟨serveAll_packetBeats hready hpart p, serveAll_bytes_lastEmpty hready hpart p⟩
  · exact serveAll_chunkBeats hready hpart hroom hend

/-! #### One beat as a step -/

/-- A step of a live block serves the one event of its cycle. -/
theorem step_of_event {e : Event} {later : List (List Event)} (hv : s.cfg.Valid)
    (hlive : s.halted = false) (ha : s.agenda = [e] :: later) :
    step s = serve e (s.setAgenda later) :=
  advance_of_event hv (.inl hlive) ha

/-- The step in which a packet arrives when nothing of it is left in transfer. -/
theorem step_datagramIn (hv : s.cfg.Valid) (hlive : s.halted = false) (d : List Byte)
    (later : List (List Event)) :
    step ((s.setAgenda ([.datagramIn k d] :: later)).setDgPart k []) =
      endPacket k d (s.setAgenda later) := by
  have hserved : step ((s.setAgenda ([.datagramIn k d] :: later)).setDgPart k []) =
      serve (.datagramIn k d) ((s.setAgenda later).setDgPart k []) := by
    rw [step_of_event (e := .datagramIn k d) (later := later) (by simpa using hv)
      (by simpa using hlive) (by simp), setDgPart_setAgenda, State.setAgenda_setAgenda]
  rw [hserved, ← endPacket_of_no_transfer (State.setDgPart_dgPart_self _ _ _), endPacket_setDgPart]

/-- One beat on `ser_rx` as a step: it lapses, is held, or ends its chunk. -/
theorem step_serialBeat {later : List (List Event)} {b : SerialBeat} (hv : s.cfg.Valid)
    (hlive : s.halted = false) (ha : s.agenda = [.serialBeat b] :: later) :
    ((s.outputs false).serRxReady = false → step s = .next { s with agenda := later }) ∧
    ((s.outputs false).serRxReady = true →
      (b.last = false → s.rxPart.length + 1 < s.serialRoom →
        step s = .next { s with agenda := later, rxPart := s.rxPart ++ [b.data] }) ∧
      (b.last = true ∨ s.serialRoom ≤ s.rxPart.length + 1 →
        step s = step { s with
          agenda := [.serialIn ((s.rxPart ++ [b.data]).take s.serialRoom)] :: later,
          rxPart := (s.rxPart ++ [b.data]).drop s.serialRoom } ∧ ∃ t, step s = .next t)) := by
  rw [step_of_event hv hlive ha]
  refine ⟨fun hready => serve_serialBeat_of_not_ready (s := s.setAgenda later) hready b,
    fun hready => ⟨fun hlast hroom => ?_, fun hend => ?_⟩⟩
  · exact serve_heldSerialBeat (s := s.setAgenda later) hready hlast hroom
  · rw [serve_lastSerialBeat (s := s.setAgenda later) hready hend]
    refine ⟨Eq.symm ?_, attempt_answers _ _⟩
    exact advance_of_event (later := later) hv (.inl hlive) rfl

/-- Settles O60: a step serves the one beat, and the three kinds of beat are `serve`'s. -/
theorem beatsAreHeldUntilTheirTransactionEnds : Obligations.BeatsAreHeldUntilTheirTransactionEnds := by
  refine ⟨fun s later b => step_serialBeat, fun s later k b hv hlive ha => ?_, fun s t h => ?_⟩
  · rw [step_of_event hv hlive ha]
    have hready : (s.setAgenda later).dgInReady k = true ↔ s.pending k = none ∧ s.lock ≠ some k := by
      simp [dgInReady_iff, State.PortFree, hlive]
    refine ⟨fun hbusy => ?_, fun hpending hlock => ?_⟩
    · exact serve_datagramBeat_of_not_ready (Bool.not_eq_true _ ▸ mt hready.1 hbusy) b
    · have hready := hready.2 ⟨hpending, hlock⟩
      refine ⟨?_, ?_, ?_, ?_⟩
      · rintro x rfl
        exact (serve_byte hready x).trans (by rw [State.setAgenda_dgPart]; rfl)
      · rintro x rfl
        rw [serve_lastByte hready, State.setAgenda_dgPart]
        exact ⟨(step_datagramIn hv hlive _ later).symm, endPacket_answers _ _ _⟩
      · rintro rfl
        rw [serve_lastEmpty hready, State.setAgenda_dgPart]
        exact ⟨(step_datagramIn hv hlive _ later).symm, endPacket_answers _ _ _⟩
      · rintro rfl
        exact serve_emptyWithoutLast hready
  · cases h
    simp

end Beats

end Sys2Proof.Machine

/-! PROOFS. The buffers of spec/20_memory.md: bytes leave the scan buffer from its head only (R36). -/

namespace Sys2Proof.Machine

section ScanBuffer

variable {s t : State}

/-! ### What each effect of the inbound parser leaves of the scan buffer -/

/-- PARSE_SLIDE discards the head byte (R72). -/
theorem slideByte_buf_suffix (s : State) : (slideByte s).buf <:+ s.buf := List.drop_suffix 1 s.buf

/-- PARSE_LATCH takes the whole buffer (R73). -/
theorem latch_buf_suffix (s : State) : (latch s).buf <:+ s.buf := List.nil_suffix

/-- PARSE_TOO_LARGE resynchronises, from the head on (R75, R76). -/
theorem rejectHeader_buf_suffix (s : State) : (rejectHeader s).buf <:+ s.buf := resync_suffix s.buf

/-- PARSE_WAIT keeps the buffer (R77). -/
theorem awaitPayload_buf_suffix (s : State) : (awaitPayload s).buf <:+ s.buf := List.suffix_rfl

/-- PARSE_DISPATCH takes the header and its payload (R86). -/
theorem dispatchFrame_buf_suffix (s : State) (k : SubStream) (n : Nat) :
    (dispatchFrame s k n).buf <:+ s.buf := List.drop_suffix (4 + n) s.buf

/-- So a scan iteration on a window that is no frame discards from the head only (R78). -/
theorem scanFailure_buf_suffix (s : State) : (scanFailure s).buf <:+ s.buf := by
  obtain ⟨-, heq⟩ | ⟨-, heq⟩ := scanFailure_cases s
  · exact heq ▸ latch_buf_suffix s
  · exact heq ▸ slideByte_buf_suffix s

/-- And so does a scan iteration on a header (R78). -/
theorem scanHeader_buf_suffix (s : State) (k : SubStream) (n : Nat) :
    (scanHeader s k n).buf <:+ s.buf := by
  obtain ⟨-, heq⟩ | ⟨-, -, heq⟩ | ⟨-, -, heq⟩ := scanHeader_cases s k n
  · exact heq ▸ rejectHeader_buf_suffix s
  · exact heq ▸ awaitPayload_buf_suffix s
  · exact heq ▸ dispatchFrame_buf_suffix s k n

/-! ### What each operation leaves of it -/

/-- A guarded operation leaves of the buffer what its effect leaves. -/
theorem perform_buf_suffix {n : String} {g : Prop} [Decidable g] {u : State} {bytes : List Byte}
    (h : perform n s g u = .next t) (hu : u.buf <:+ bytes) : t.buf <:+ bytes := by
  obtain ⟨-, -, rfl⟩ := perform_eq_next_iff.1 h
  exact hu

theorem execParseTooLarge_buf_suffix (h : execParseTooLarge s = .next t) : t.buf <:+ s.buf := by
  unfold execParseTooLarge at h
  split at h
  · exact perform_buf_suffix h (rejectHeader_buf_suffix s)
  · exact absurd h perform_false_ne_next

theorem execParseWait_buf_suffix (h : execParseWait s = .next t) : t.buf <:+ s.buf := by
  unfold execParseWait at h
  split at h
  · exact perform_buf_suffix h (awaitPayload_buf_suffix s)
  · exact absurd h perform_false_ne_next

theorem execParseDispatch_buf_suffix (h : execParseDispatch s = .next t) : t.buf <:+ s.buf := by
  unfold execParseDispatch at h
  split at h
  · exact perform_buf_suffix h (dispatchFrame_buf_suffix s _ _)
  · exact absurd h perform_false_ne_next

/-- RX_CHUNK appends its chunk (R70). -/
theorem execRxChunk_buf {c : List Byte} (h : execRxChunk c s = .next t) : t.buf = s.buf ++ c := by
  obtain ⟨-, -, rfl⟩ := perform_eq_next_iff.1 h
  rfl

/-- Only the inbound parser and RESET write the scan buffer (R32). -/
theorem exec_buf_of_not_inbound {i : Instr} (hi : ¬ Inbound i) (hreset : i ≠ .reset)
    (h : exec i s = .next t) : t.buf = s.buf := by
  obtain ⟨hwriter, -⟩ := eachElementHasItsWriters i s t h hreset
  by_contra hne
  exact hi (hwriter (.inl hne))

/-- Every operation but RX_CHUNK keeps the scan buffer or discards from its head. -/
theorem exec_buf_suffix {i : Instr} (hi : ∀ c, i ≠ .rxChunk c) (h : exec i s = .next t) :
    t.buf <:+ s.buf := by
  cases i with
  | hdrPrimary len => exact perform_buf_suffix h (scanHeader_buf_suffix s _ _)
  | hdrSecondary len => exact perform_buf_suffix h (scanHeader_buf_suffix s _ _)
  | nafMagic b0 b1 b2 b3 => exact perform_buf_suffix h (scanFailure_buf_suffix s)
  | nafChecksum b1 b2 b3 => exact perform_buf_suffix h (scanFailure_buf_suffix s)
  | rxChunk c => exact absurd rfl (hi c)
  | parseIdle => exact perform_buf_suffix h List.suffix_rfl
  | parseSlide => exact perform_buf_suffix h (slideByte_buf_suffix s)
  | parseLatch => exact perform_buf_suffix h (latch_buf_suffix s)
  | parseTooLarge => exact execParseTooLarge_buf_suffix h
  | parseWait => exact execParseWait_buf_suffix h
  | parseDispatch => exact execParseDispatch_buf_suffix h
  | rawForward c => exact perform_buf_suffix h List.suffix_rfl
  | reset =>
    cases h
    exact List.nil_suffix
  | _ =>
    have hkept : t.buf = s.buf := exec_buf_of_not_inbound id (by simp) h
    exact hkept ▸ List.suffix_rfl

/-- Only RX_CHUNK brings bytes into the scan buffer (R70). -/
theorem arrivedBytes_of_ne_rxChunk {i : Instr} (hi : ∀ c, i ≠ .rxChunk c) : arrivedBytes i = [] := by
  cases i with
  | rxChunk c => exact absurd rfl (hi c)
  | _ => rfl

/-- Settles O42: RX_CHUNK appends what arrived, and every other operation brings nothing and discards from
the head only. -/
theorem scanBufferIsFirstInFirstOut : Obligations.ScanBufferIsFirstInFirstOut := by
  intro i s t h
  by_cases hi : ∀ c, i ≠ .rxChunk c
  · rw [arrivedBytes_of_ne_rxChunk hi, List.append_nil]
    exact exec_buf_suffix hi h
  · obtain ⟨c, rfl⟩ : ∃ c, i = .rxChunk c := by simpa using hi
    exact (execRxChunk_buf h).symm ▸ List.suffix_rfl

end ScanBuffer

end Sys2Proof.Machine

/-! PROOFS. The encoding of spec/30_encoding.md: the header's fields and bytes, the class of every window
and its mask on the header word (R50 to R56), the classes run at the scan head (R72 to R78, R86), and how a
step selects what it runs (R60, R78, R82, R98). -/

namespace Sys2Proof

/-! ### The bits of the header's fields (R50 to R52, R55) -/

theorem mask7F_getLsbD : ∀ i < 7, (0x7F : Len).getLsbD i = true := by decide

/-- The length field is byte 2 below the 7 low bits of byte 1 (R51). -/
theorem lenOf_getLsbD (b1 b2 : Byte) {i : Nat} (hi : i < 15) :
    (lenOf b1 b2).getLsbD i = if i < 8 then b2.getLsbD i else b1.getLsbD (i - 8) := by
  unfold lenOf
  split
  · next hlow => simp [hlow, hi]
  · next hhigh =>
    have hmask : (0x7F : Len).getLsbD (i - 8) = true := mask7F_getLsbD _ (by omega)
    have hb2 : b2.getLsbD i = false := b2.getLsbD_of_ge i (by omega)
    have hi' : i - 8 < 15 := by omega
    simpa [hhigh, hi, hi', hb2] using fun _ => hmask

/-- Byte 1 is the 7 high bits of the length below the tag (R50). -/
theorem headerByte1_getLsbD (t : SubStream) (n : Len) {i : Nat} (hi : i < 8) :
    (headerByte1 t n).getLsbD i = if i < 7 then n.getLsbD (8 + i) else (tagBit t).getLsbD 0 := by
  unfold headerByte1
  split
  · next hlow => simp [hlow, hi]
  · next hhigh =>
    obtain rfl : i = 7 := by omega
    simp

theorem headerByte2_getLsbD (n : Len) {i : Nat} (hi : i < 8) :
    (headerByte2 n).getLsbD i = n.getLsbD i := by
  simp [headerByte2, hi]

/-- The header word is its four bytes, the first one on top (R55). -/
theorem hdr32_getLsbD (b0 b1 b2 b3 : Byte) {i : Nat} (hi : i < 32) :
    (hdr32 b0 b1 b2 b3).getLsbD i =
      if i < 8 then b3.getLsbD i else if i < 16 then b2.getLsbD (i - 8)
      else if i < 24 then b1.getLsbD (i - 16) else b0.getLsbD (i - 24) := by
  unfold hdr32
  simp only [BitVec.getLsbD_or, BitVec.getLsbD_shiftLeft, BitVec.getLsbD_setWidth]
  grind

/-! ### The fields of the header bytes, and the header bytes of the fields -/

theorem tagOf_headerByte1 (t : SubStream) (n : Len) : tagOf (headerByte1 t n) = t := by
  have htag : (headerByte1 t n).getLsbD 7 = (tagBit t).getLsbD 0 := headerByte1_getLsbD t n (by omega)
  unfold tagOf
  rw [htag]
  cases t <;> rfl

theorem lenOf_headerBytes (t : SubStream) (n : Len) :
    lenOf (headerByte1 t n) (headerByte2 n) = n := by
  refine BitVec.eq_of_getLsbD_eq fun i hi => ?_
  rw [lenOf_getLsbD _ _ hi]
  split
  · next hlow => exact headerByte2_getLsbD n hlow
  · next hhigh =>
    have hback : 8 + (i - 8) = i := by omega
    rw [headerByte1_getLsbD t n (by omega), if_pos (by omega), hback]

theorem tagBit_tagOf_getLsbD (b1 : Byte) : (tagBit (tagOf b1)).getLsbD 0 = b1.getLsbD 7 := by
  unfold tagOf
  cases b1.getLsbD 7 <;> rfl

theorem headerByte1_fields (b1 b2 : Byte) : headerByte1 (tagOf b1) (lenOf b1 b2) = b1 := by
  refine BitVec.eq_of_getLsbD_eq fun i hi => ?_
  rw [headerByte1_getLsbD _ _ hi]
  split
  · rw [lenOf_getLsbD _ _ (by omega), if_neg (by omega), Nat.add_sub_cancel_left]
  · next hhigh =>
    obtain rfl : i = 7 := by omega
    exact tagBit_tagOf_getLsbD b1

theorem headerByte2_fields (b1 b2 : Byte) : headerByte2 (lenOf b1 b2) = b2 := by
  refine BitVec.eq_of_getLsbD_eq fun i hi => ?_
  rw [headerByte2_getLsbD _ hi, lenOf_getLsbD _ _ (by omega), if_pos hi]

/-! ### The header classes (R56) -/

/-- The class of the windows that decode to `h`. -/
def headerClass (h : Header) : Instr :=
  match h.tag with
  | .primary => .hdrPrimary h.len
  | .secondary => .hdrSecondary h.len

theorem headerClass_injective : Function.Injective headerClass := by
  rintro ⟨t, n⟩ ⟨t', n'⟩ h
  cases t <;> cases t' <;> cases h <;> rfl

theorem headerClass_ne_nafMagic (h : Header) (b0 b1 b2 b3 : Byte) :
    headerClass h ≠ .nafMagic b0 b1 b2 b3 := by
  obtain ⟨t, n⟩ := h
  cases t <;> exact Instr.noConfusion

theorem headerClass_ne_nafChecksum (h : Header) (b1 b2 b3 : Byte) :
    headerClass h ≠ .nafChecksum b1 b2 b3 := by
  obtain ⟨t, n⟩ := h
  cases t <;> exact Instr.noConfusion

theorem encode_headerClass (h : Header) : encode (headerClass h) = some (headerBytes h.tag h.len) := by
  obtain ⟨t, n⟩ := h
  cases t <;> rfl

theorem wellFormed_headerClass (h : Header) : wellFormed (headerClass h) = true := by
  obtain ⟨t, n⟩ := h
  cases t <;> rfl

theorem wellFormed_nafMagic_iff (b0 b1 b2 b3 : Byte) :
    wellFormed (.nafMagic b0 b1 b2 b3) = true ↔ b0 ≠ magic := bne_iff_ne

theorem wellFormed_nafChecksum_iff (b1 b2 b3 : Byte) :
    wellFormed (.nafChecksum b1 b2 b3) = true ↔ b3 ≠ checksum magic b1 b2 := bne_iff_ne

theorem decodeWindow_of_not_magic {b0 : Byte} (h0 : b0 ≠ magic) (b1 b2 b3 : Byte) :
    decodeWindow b0 b1 b2 b3 = .nafMagic b0 b1 b2 b3 := if_pos h0

theorem decodeWindow_of_bad_checksum {b1 b2 b3 : Byte} (h3 : b3 ≠ checksum magic b1 b2) :
    decodeWindow magic b1 b2 b3 = .nafChecksum b1 b2 b3 :=
  (if_neg (not_not.2 rfl)).trans (if_pos h3)

theorem decodeWindow_of_checksum (b1 b2 : Byte) :
    decodeWindow magic b1 b2 (checksum magic b1 b2) = headerClass ⟨tagOf b1, lenOf b1 b2⟩ :=
  (if_neg (not_not.2 rfl)).trans ((if_neg (not_not.2 rfl)).trans (by cases tagOf b1 <;> rfl))

/-- The three kinds of window: by the first byte, and by the checksum of the others. -/
theorem window_cases (b0 b1 b2 b3 : Byte) :
    b0 ≠ magic ∨ (b0 = magic ∧ b3 ≠ checksum magic b1 b2) ∨
      (b0 = magic ∧ b3 = checksum magic b1 b2) := by
  by_cases h0 : b0 = magic
  · by_cases h3 : b3 = checksum magic b1 b2
    · exact .inr (.inr ⟨h0, h3⟩)
    · exact .inr (.inl ⟨h0, h3⟩)
  · exact .inl h0

/-! ### Decoding and encoding (R56) -/

/-- The header bytes of a tag and a length decode to their class, whatever follows. -/
theorem decode_headerBytes (t : SubStream) (n : Len) (rest : List Byte) :
    decode (headerBytes t n ++ rest) = .ok (headerClass ⟨t, n⟩, rest) := by
  have hclass := decodeWindow_of_checksum (headerByte1 t n) (headerByte2 n)
  rw [tagOf_headerByte1, lenOf_headerBytes] at hclass
  exact (decode_eq_ok_iff _ _ _).2 ⟨_, _, _, _, rfl, hclass.symm⟩

/-- Settles O2: the two header classes by their fields, the two failure classes by the test that names
them. -/
theorem decodeInvertsEncode : Obligations.DecodeInvertsEncode := by
  intro i bytes rest hwf henc
  cases i with
  | hdrPrimary n =>
    cases henc
    exact decode_headerBytes .primary n rest
  | hdrSecondary n =>
    cases henc
    exact decode_headerBytes .secondary n rest
  | nafMagic b0 b1 b2 b3 =>
    cases henc
    have h0 : b0 ≠ magic := (wellFormed_nafMagic_iff b0 b1 b2 b3).1 hwf
    exact (decode_eq_ok_iff _ _ _).2 ⟨_, _, _, _, rfl, (decodeWindow_of_not_magic h0 b1 b2 b3).symm⟩
  | nafChecksum b1 b2 b3 =>
    cases henc
    have h3 : b3 ≠ checksum magic b1 b2 := (wellFormed_nafChecksum_iff b1 b2 b3).1 hwf
    exact (decode_eq_ok_iff _ _ _).2 ⟨_, _, _, _, rfl, (decodeWindow_of_bad_checksum h3).symm⟩
  | _ => cases henc

theorem wellFormed_decodeWindow (b0 b1 b2 b3 : Byte) :
    wellFormed (decodeWindow b0 b1 b2 b3) = true := by
  obtain h0 | ⟨rfl, h3⟩ | ⟨rfl, rfl⟩ := window_cases b0 b1 b2 b3
  · rw [decodeWindow_of_not_magic h0]
    exact (wellFormed_nafMagic_iff b0 b1 b2 b3).2 h0
  · rw [decodeWindow_of_bad_checksum h3]
    exact (wellFormed_nafChecksum_iff b1 b2 b3).2 h3
  · rw [decodeWindow_of_checksum]
    exact wellFormed_headerClass _

theorem encode_decodeWindow (b0 b1 b2 b3 : Byte) :
    encode (decodeWindow b0 b1 b2 b3) = some [b0, b1, b2, b3] := by
  obtain h0 | ⟨rfl, h3⟩ | ⟨rfl, rfl⟩ := window_cases b0 b1 b2 b3
  · rw [decodeWindow_of_not_magic h0]
    rfl
  · rw [decodeWindow_of_bad_checksum h3]
    rfl
  · rw [decodeWindow_of_checksum, encode_headerClass]
    simp only [headerBytes, headerByte1_fields, headerByte2_fields]

/-- Settles O3: the decoded class is well-formed and has the window's bytes, and by O2 it is the only one. -/
theorem everyWindowHasExactlyOneClass : Obligations.EveryWindowHasExactlyOneClass := by
  intro b0 b1 b2 b3 rest
  have hdecode : decode (b0 :: b1 :: b2 :: b3 :: rest) = .ok (decodeWindow b0 b1 b2 b3, rest) := rfl
  refine ⟨_, hdecode, wellFormed_decodeWindow _ _ _ _, encode_decodeWindow _ _ _ _, fun j hwf henc => ?_⟩
  have hj : decode (b0 :: b1 :: b2 :: b3 :: rest) = .ok (j, rest) := decodeInvertsEncode j _ rest hwf henc
  rw [hdecode] at hj
  cases hj
  rfl

/-- Settles O1: each of the spec's windows is run through the decoder. -/
theorem specWordsDecodeToTheirClass : Obligations.SpecWordsDecodeToTheirClass := by
  unfold Obligations.SpecWordsDecodeToTheirClass
  exact ⟨rfl, rfl, rfl, rfl, rfl, rfl, rfl⟩

/-! ### The classes on the header word (R55, R56) -/

section HeaderWord

variable (b0 b1 b2 b3 : Byte)

/-- The four bytes as fields of the word. -/
theorem hdr32_bytes :
    (hdr32 b0 b1 b2 b3).extractLsb' 24 8 = b0 ∧ (hdr32 b0 b1 b2 b3).extractLsb' 16 8 = b1 ∧
      (hdr32 b0 b1 b2 b3).extractLsb' 8 8 = b2 ∧ (hdr32 b0 b1 b2 b3).extractLsb' 0 8 = b3 := by
  refine ⟨?_, ?_, ?_, ?_⟩ <;>
  · refine BitVec.eq_of_getLsbD_eq fun i hi => ?_
    rw [BitVec.getLsbD_extractLsb', hdr32_getLsbD _ _ _ _ (by omega)]
    grind

/-- The length field is `hdr32[22:8]`. -/
theorem hdr32_len : (hdr32 b0 b1 b2 b3).extractLsb' 8 15 = lenOf b1 b2 := by
  refine BitVec.eq_of_getLsbD_eq fun i hi => ?_
  rw [BitVec.getLsbD_extractLsb', hdr32_getLsbD _ _ _ _ (by omega), lenOf_getLsbD _ _ hi]
  grind

/-- A mask on the header word is four masks on its bytes. -/
theorem hdr32_and (m0 m1 m2 m3 : Byte) :
    hdr32 b0 b1 b2 b3 &&& hdr32 m0 m1 m2 m3 =
      hdr32 (b0 &&& m0) (b1 &&& m1) (b2 &&& m2) (b3 &&& m3) := by
  refine BitVec.eq_of_getLsbD_eq fun i hi => ?_
  simp only [BitVec.getLsbD_and, hdr32_getLsbD _ _ _ _ hi]
  split_ifs <;> rfl

/-- Two header words are equal only byte by byte. -/
theorem hdr32_inj (c0 c1 c2 c3 : Byte) :
    hdr32 b0 b1 b2 b3 = hdr32 c0 c1 c2 c3 ↔ b0 = c0 ∧ b1 = c1 ∧ b2 = c2 ∧ b3 = c3 := by
  refine ⟨fun h => ?_, fun ⟨h0, h1, h2, h3⟩ => by rw [h0, h1, h2, h3]⟩
  obtain ⟨hb0, hb1, hb2, hb3⟩ := hdr32_bytes b0 b1 b2 b3
  rw [h] at hb0 hb1 hb2 hb3
  obtain ⟨hc0, hc1, hc2, hc3⟩ := hdr32_bytes c0 c1 c2 c3
  exact ⟨hb0.symm.trans hc0, hb1.symm.trans hc1, hb2.symm.trans hc2, hb3.symm.trans hc3⟩

/-- Bit 7 alone is the tag (R52). -/
theorem and_mask80_eq_iff (t : SubStream) : b1 &&& (0x80 : Byte) = tagBit t <<< 7 ↔ tagOf b1 = t := by
  have hmask : b1 &&& 0x80 = if b1.getLsbD 7 then 0x80 else 0 := BitVec.and_twoPow b1 7
  rw [hmask]
  unfold tagOf
  cases b1.getLsbD 7 <;> cases t <;> decide

/-- `MAGIC` as a mask of the first byte. -/
theorem hdr32_and_maskFF000000_iff :
    hdr32 b0 b1 b2 b3 &&& 0xFF000000 = 0x53000000 ↔ b0 = magic := by
  have hand : hdr32 b0 b1 b2 b3 &&& 0xFF000000 = hdr32 (b0 &&& 0xFF) (b1 &&& 0) (b2 &&& 0) (b3 &&& 0) :=
    hdr32_and b0 b1 b2 b3 0xFF 0 0 0
  have hmatch : (0x53000000 : Hdr32) = hdr32 magic 0 0 0 := rfl
  have hall : b0 &&& 0xFF = b0 := BitVec.and_allOnes
  rw [hand, hmatch, hdr32_inj, hall]
  simp

/-- `MAGIC` and the tag as a mask of the first nine bits. -/
theorem hdr32_and_maskFF800000_iff (t : SubStream) :
    hdr32 b0 b1 b2 b3 &&& (0xFF800000 : Hdr32) = hdr32 magic (tagBit t <<< 7) 0 0 ↔
      b0 = magic ∧ tagOf b1 = t := by
  have hand : hdr32 b0 b1 b2 b3 &&& 0xFF800000 =
      hdr32 (b0 &&& 0xFF) (b1 &&& 0x80) (b2 &&& 0) (b3 &&& 0) := hdr32_and b0 b1 b2 b3 0xFF 0x80 0 0
  have hall : b0 &&& 0xFF = b0 := BitVec.and_allOnes
  rw [hand, hdr32_inj, hall, and_mask80_eq_iff]
  simp

/-- The checksum constraint of R56 on the fields of the word. -/
theorem hdr32_checksum_iff :
    (hdr32 b0 b1 b2 b3).extractLsb' 0 8 =
        (0x53 : Byte) ^^^ (hdr32 b0 b1 b2 b3).extractLsb' 16 8 ^^^ (hdr32 b0 b1 b2 b3).extractLsb' 8 8 ↔
      b3 = checksum magic b1 b2 := by
  obtain ⟨-, hb1, hb2, hb3⟩ := hdr32_bytes b0 b1 b2 b3
  rw [hb1, hb2, hb3]
  rfl

/-- A window has the class of a header exactly where its magic, checksum, tag and length are the header's. -/
theorem decodeWindow_eq_headerClass_iff (t : SubStream) (n : Len) :
    decodeWindow b0 b1 b2 b3 = headerClass ⟨t, n⟩ ↔
      (b0 = magic ∧ tagOf b1 = t) ∧ b3 = checksum magic b1 b2 ∧ n = lenOf b1 b2 := by
  obtain h0 | ⟨rfl, h3⟩ | ⟨rfl, rfl⟩ := window_cases b0 b1 b2 b3
  · rw [decodeWindow_of_not_magic h0]
    exact iff_of_false (headerClass_ne_nafMagic _ _ _ _ _).symm fun ⟨⟨hmagic, _⟩, _⟩ => h0 hmagic
  · rw [decodeWindow_of_bad_checksum h3]
    exact iff_of_false (headerClass_ne_nafChecksum _ _ _ _).symm fun ⟨_, hsum, _⟩ => h3 hsum
  · rw [decodeWindow_of_checksum, headerClass_injective.eq_iff, Header.mk.injEq, eq_comm (a := n)]
    simp

theorem decodeWindow_eq_nafMagic_iff :
    decodeWindow b0 b1 b2 b3 = .nafMagic b0 b1 b2 b3 ↔ b0 ≠ magic := by
  refine ⟨fun h => ?_, fun h0 => decodeWindow_of_not_magic h0 b1 b2 b3⟩
  exact (wellFormed_nafMagic_iff b0 b1 b2 b3).1 (h ▸ wellFormed_decodeWindow b0 b1 b2 b3)

theorem decodeWindow_eq_nafChecksum_iff :
    decodeWindow b0 b1 b2 b3 = .nafChecksum b1 b2 b3 ↔ b0 = magic ∧ b3 ≠ checksum magic b1 b2 := by
  refine ⟨fun h => ⟨?_, ?_⟩, fun ⟨h0, h3⟩ => h0 ▸ decodeWindow_of_bad_checksum h3⟩
  · have hbytes := encode_decodeWindow b0 b1 b2 b3
    rw [h] at hbytes
    cases hbytes
    rfl
  · exact (wellFormed_nafChecksum_iff b1 b2 b3).1 (h ▸ wellFormed_decodeWindow b0 b1 b2 b3)

/-- A header class as mask, match and constraint, with its length field. -/
theorem decodeWindow_eq_headerClass_iff_mask (t : SubStream) (n : Len) :
    decodeWindow b0 b1 b2 b3 = headerClass ⟨t, n⟩ ↔
      hdr32 b0 b1 b2 b3 &&& (0xFF800000 : Hdr32) = hdr32 magic (tagBit t <<< 7) 0 0 ∧
        (hdr32 b0 b1 b2 b3).extractLsb' 0 8 = (0x53 : Byte) ^^^
          (hdr32 b0 b1 b2 b3).extractLsb' 16 8 ^^^ (hdr32 b0 b1 b2 b3).extractLsb' 8 8 ∧
        n = (hdr32 b0 b1 b2 b3).extractLsb' 8 15 := by
  rw [decodeWindow_eq_headerClass_iff, hdr32_and_maskFF800000_iff, hdr32_checksum_iff, hdr32_len]

end HeaderWord

/-- Settles O4: the two header classes are one statement about a tag, and the failure classes are the
windows without the magic byte and those without the checksum. -/
theorem classesAreMasksOfTheHeaderWord : Obligations.ClassesAreMasksOfTheHeaderWord := by
  intro b0 b1 b2 b3 w good
  have hmagic : w &&& 0xFF000000 = 0x53000000 ↔ b0 = magic := hdr32_and_maskFF000000_iff b0 b1 b2 b3
  have hgood : good ↔ b3 = checksum magic b1 b2 := hdr32_checksum_iff b0 b1 b2 b3
  refine ⟨decodeWindow_eq_headerClass_iff_mask b0 b1 b2 b3 .primary,
    decodeWindow_eq_headerClass_iff_mask b0 b1 b2 b3 .secondary, ?_, ?_⟩
  · rw [decodeWindow_eq_nafMagic_iff, Ne, Ne, hmagic]
  · rw [decodeWindow_eq_nafChecksum_iff, hmagic, hgood]

end Sys2Proof

namespace Sys2Proof.Machine

/-! ### The scan head in the words of `headerClass` -/

section ScanHead

variable {s : State}

/-- A header at the scan head is its class there (R56). -/
theorem headHeader_eq_some_iff_headerClass (h : Header) :
    s.headHeader = some h ↔ s.headClass = some (headerClass h) := headHeader_eq_some_iff s h

/-- So a header there determines the class. -/
theorem headClass_of_headHeader {h : Header} {i : Instr} (hclass : s.headClass = some i)
    (hhead : s.headHeader = some h) : i = headerClass h := by
  rw [headHeader_eq_some_iff_headerClass, hclass] at hhead
  exact Option.some.inj hhead

theorem four_le_of_headClass {i : Instr} (hclass : s.headClass = some i) : 4 ≤ s.buf.length := by
  by_contra hshort
  rw [(headClass_eq_none_iff s).2 (Nat.not_le.1 hshort)] at hclass
  cases hclass

/-- The parser fetches the class at the scan head. -/
theorem parserInstr_of_headClass {i : Instr} (hclass : s.headClass = some i) : parserInstr s = i := by
  rw [parserInstr, hclass]

/-- The scan head without a header holds a window of a failure class, where it holds a window. -/
theorem headHeader_eq_none_of_headClass {i : Instr} (hclass : s.headClass = some i)
    (hi : ∀ h, i ≠ headerClass h) : s.headHeader = none :=
  Option.eq_none_iff_forall_ne_some.2 fun h hhead => hi h (headClass_of_headHeader hclass hhead)

/-- Header bytes at the scan head are that header. -/
theorem headHeader_of_headerBytes {t : SubStream} {n : Len} {rest : List Byte}
    (hbuf : s.buf = headerBytes t n ++ rest) : s.headHeader = some ⟨t, n⟩ := by
  rw [headHeader_eq_some_iff_headerClass]
  unfold State.headClass
  rw [hbuf, decode_headerBytes]

/-! ### A class runs as one scan iteration (R78; log 7) -/

/-- A header class runs its header's iteration. -/
theorem exec_headerClass {h : Header} (hscan : s.Parsing) (hhead : s.headHeader = some h) :
    exec (headerClass h) s = .next (scanHeader s h.tag h.len.toNat) := by
  have hclass := (headHeader_eq_some_iff_headerClass h).1 hhead
  obtain ⟨t, n⟩ := h
  cases t
  · exact perform_of_guard hscan.1 ⟨hscan, hclass⟩
  · exact perform_of_guard hscan.1 ⟨hscan, hclass⟩

/-- A failure class runs the failure's iteration. -/
theorem exec_failureClass {i : Instr} (hscan : s.Parsing) (hclass : s.headClass = some i)
    (hhead : s.headHeader = none) : exec i s = .next (scanFailure s) := by
  obtain ⟨b0, b1, b2, b3, rest, -, rfl⟩ := (headClass_eq_some_iff s i).1 hclass
  obtain h0 | ⟨rfl, h3⟩ | ⟨rfl, rfl⟩ := window_cases b0 b1 b2 b3
  · rw [decodeWindow_of_not_magic h0] at hclass ⊢
    exact perform_of_guard hscan.1 ⟨hscan, hclass⟩
  · rw [decodeWindow_of_bad_checksum h3] at hclass ⊢
    exact perform_of_guard hscan.1 ⟨hscan, hclass⟩
  · rw [decodeWindow_of_checksum, ← headHeader_eq_some_iff_headerClass, hhead] at hclass
    cases hclass

/-- The class at the head of a running scan loop completes. -/
theorem exec_headClass_completes {i : Instr} (hscan : s.Parsing) (hclass : s.headClass = some i) :
    ∃ t, exec i s = .next t := by
  cases hhead : s.headHeader with
  | none => exact ⟨_, exec_failureClass hscan hclass hhead⟩
  | some h => exact ⟨_, headClass_of_headHeader hclass hhead ▸ exec_headerClass hscan hhead⟩

/-! ### The operation the table of R78 selects -/

theorem exec_parseTooLarge_of_header {h : Header} (hscan : s.Parsing) (hhead : s.headHeader = some h)
    (hbig : s.cfg.maxFrame < 4 + h.len.toNat) : exec .parseTooLarge s = .next (rejectHeader s) := by
  simp only [exec, execParseTooLarge, hhead]
  exact perform_of_guard hscan.1 ⟨hscan, hbig⟩

theorem exec_parseWait_of_header {h : Header} (hscan : s.Parsing) (hhead : s.headHeader = some h)
    (hfits : 4 + h.len.toNat ≤ s.cfg.maxFrame) (hshort : s.buf.length < 4 + h.len.toNat) :
    exec .parseWait s = .next (awaitPayload s) := by
  simp only [exec, execParseWait, hhead]
  exact perform_of_guard hscan.1 ⟨hscan, hfits, hshort⟩

theorem exec_parseDispatch_of_header {h : Header} (hscan : s.Parsing) (hhead : s.headHeader = some h)
    (hfits : 4 + h.len.toNat ≤ s.cfg.maxFrame) (hfull : 4 + h.len.toNat ≤ s.buf.length) :
    exec .parseDispatch s = .next (dispatchFrame s h.tag h.len.toNat) := by
  simp only [exec, execParseDispatch, hhead]
  exact perform_of_guard hscan.1 ⟨hscan, hfits, hfull⟩

/-- On a header the selected operation is that header's iteration. -/
theorem exec_selectParse_of_header {h : Header} (hscan : s.Parsing) (hhead : s.headHeader = some h) :
    exec (selectParse s) s = .next (scanHeader s h.tag h.len.toNat) := by
  have hbuf : ¬ s.buf.length < 4 := Nat.not_lt.2 (four_le_of_headHeader hhead)
  unfold selectParse scanHeader
  rw [if_neg hbuf, hhead]
  dsimp only
  split
  · next hbig => exact exec_parseTooLarge_of_header hscan hhead hbig
  · next hfits =>
    rw [Nat.not_lt] at hfits
    split
    · next hshort => exact exec_parseWait_of_header hscan hhead hfits hshort
    · next hfull => exact exec_parseDispatch_of_header hscan hhead hfits (Nat.not_lt.1 hfull)

/-- On a window that is no frame it is the failure's iteration. -/
theorem exec_selectParse_of_failure (hscan : s.Parsing) (hbuf : 4 ≤ s.buf.length)
    (hhead : s.headHeader = none) : exec (selectParse s) s = .next (scanFailure s) := by
  unfold selectParse scanFailure
  rw [if_neg (Nat.not_lt.2 hbuf), hhead]
  dsimp only
  split
  · next hlate => exact perform_of_guard hscan.1 ⟨hscan, hbuf, hhead, hlate⟩
  · next hintime => exact perform_of_guard hscan.1 ⟨hscan, hbuf, hhead, hintime⟩

/-- Settles O23: with no window both are PARSE_IDLE, and with one both run its scan iteration. -/
theorem fetchedClassRunsTheSelectedOperation : Obligations.FetchedClassRunsTheSelectedOperation := by
  intro s hlive hframed hreq
  have hscan : s.Parsing := ⟨hlive, hframed, hreq⟩
  cases hclass : s.headClass with
  | none =>
    have hshort := (headClass_eq_none_iff s).1 hclass
    have hfetched : parserInstr s = .parseIdle := by rw [parserInstr, hclass]
    have hselected : selectParse s = .parseIdle := if_pos hshort
    have hidle : exec .parseIdle s = .next (s.setScanReq false) := perform_of_guard hlive ⟨hscan, hshort⟩
    rw [hfetched, hselected]
    exact ⟨_, hidle, hidle⟩
  | some i =>
    rw [parserInstr_of_headClass hclass]
    cases hhead : s.headHeader with
    | none =>
      have hbuf : 4 ≤ s.buf.length := four_le_of_headClass hclass
      exact ⟨_, exec_failureClass hscan hclass hhead, exec_selectParse_of_failure hscan hbuf hhead⟩
    | some h =>
      rw [headClass_of_headHeader hclass hhead]
      exact ⟨_, exec_headerClass hscan hhead, exec_selectParse_of_header hscan hhead⟩

/-! ### What the iteration leaves (R72 to R78, R86) -/

theorem payloadAt_headerBytes (t : SubStream) (n : Len) (payload after : List Byte) :
    payloadAt (headerBytes t n ++ (payload ++ after)) payload.length = payload := by
  rw [payloadAt, List.drop_left' (headerBytes_length t n), List.take_left]

theorem drop_frame (t : SubStream) (n : Len) (payload after : List Byte) :
    (headerBytes t n ++ (payload ++ after)).drop (4 + payload.length) = after := by
  rw [← List.append_assoc]
  exact List.drop_left' (by simp)

/-- A complete frame at the head leaves the bytes after it, and its payload on the port of its tag. -/
theorem dispatchFrame_of_buf {t : SubStream} {n : Len} {payload after : List Byte}
    (hbuf : s.buf = headerBytes t n ++ (payload ++ after)) :
    dispatchFrame s t payload.length = { s.emit t payload with sinceFrame := 0, buf := after } := by
  unfold dispatchFrame
  rw [hbuf, payloadAt_headerBytes, drop_frame]
  cases t <;> rfl

/-- Settles O19: the class of the tag runs its header's iteration, which rejects, waits or dispatches. -/
theorem headerClassesRunTheScanIteration : Obligations.HeaderClassesRunTheScanIteration := by
  rintro s t len rest hlive hframed hreq hbuf i rfl
  have hlen : s.buf.length = 4 + rest.length := by rw [hbuf, List.length_append, headerBytes_length]
  have hexec : exec (headerClass ⟨t, len⟩) s = .next (scanHeader s t len.toNat) :=
    exec_headerClass ⟨hlive, hframed, hreq⟩ (headHeader_of_headerBytes hbuf)
  refine ⟨fun hbig => ?_, fun hfits hshort => ?_, fun hfits payload after hrest hpayload => ?_⟩
  · exact hexec.trans (congrArg _ (if_pos hbig))
  · have hwait : scanHeader s t len.toNat = awaitPayload s := by
      rw [scanHeader, if_neg (by omega), if_pos (by omega)]
    exact hexec.trans (congrArg _ hwait)
  · subst hrest
    have hfull : scanHeader s t len.toNat = dispatchFrame s t payload.length := by
      rw [List.length_append] at hlen
      rw [scanHeader, if_neg (by omega), if_neg (by omega), hpayload]
    exact hexec.trans (congrArg _ (hfull.trans (dispatchFrame_of_buf hbuf)))

/-- Settles O20: both failure classes run the failure's iteration, which slides or latches. -/
theorem notAFrameClassesRunTheScanIteration : Obligations.NotAFrameClassesRunTheScanIteration := by
  intro s b0 b1 b2 b3 rest hlive hframed hreq hbuf i hi
  have hclass : s.headClass = some i := by
    refine (headClass_eq_some_iff s i).2 ⟨b0, b1, b2, b3, rest, hbuf, ?_⟩
    obtain ⟨h0, rfl⟩ | ⟨rfl, h3, rfl⟩ := hi
    · exact (decodeWindow_of_not_magic h0 b1 b2 b3).symm
    · exact (decodeWindow_of_bad_checksum h3).symm
  have hnot : ∀ h, i ≠ headerClass h := by
    obtain ⟨-, rfl⟩ | ⟨-, -, rfl⟩ := hi
    · exact fun h => (headerClass_ne_nafMagic h b0 b1 b2 b3).symm
    · exact fun h => (headerClass_ne_nafChecksum h b1 b2 b3).symm
  have hexec : exec i s = .next (scanFailure s) :=
    exec_failureClass ⟨hlive, hframed, hreq⟩ hclass (headHeader_eq_none_of_headClass hclass hnot)
  have hdrop : s.buf.drop 1 = b1 :: b2 :: b3 :: rest := by rw [hbuf, List.drop_one, List.tail_cons]
  rw [hexec]
  refine ⟨fun hintime => ?_, fun hlate => ?_⟩
  · rw [scanFailure, if_neg (Nat.not_lt.2 hintime), slideByte, hdrop]
    rfl
  · rw [scanFailure, if_pos hlate, latch_eq, hdrop, if_neg (List.cons_ne_nil _ _)]

end ScanHead

/-! ### What a step runs (R60, R78, R82, R98) -/

section Fetch

variable {s : State} {later : List (List Event)}

/-- A step whose one event offers an enabled operation runs that operation, with the agenda moved on. -/
theorem step_of_enabled {e : Event} {i : Instr} (hv : s.cfg.Valid) (hlive : s.halted = false)
    (ha : s.agenda = [e] :: later)
    (hoffer : serve e (s.setAgenda later) = attempt i (s.setAgenda later))
    (henabled : ∃ t, exec i (s.setAgenda later) = .next t) :
    step s = exec i (s.setAgenda later) ∧ ∃ t, step s = .next t := by
  obtain ⟨t, ht⟩ := henabled
  rw [step_of_event hv hlive ha, hoffer, attempt_of_next ht, ht]
  exact ⟨rfl, t, rfl⟩

/-- The parser's step runs the class at the scan head. -/
theorem step_of_scan {i : Instr} (hv : s.cfg.Valid) (hscan : s.Parsing)
    (ha : s.agenda = [.scan] :: later) (hclass : s.headClass = some i) :
    step s = exec i (s.setAgenda later) ∧ ∃ t, step s = .next t := by
  refine step_of_enabled hv hscan.1 ha ?_ (exec_headClass_completes hscan hclass)
  rw [serve, parserInstr_of_headClass (s := s.setAgenda later) hclass]

/-- Settles O49: what the decoder answers at the head is its class. -/
theorem stepRunsTheDecodedWindow : Obligations.StepRunsTheDecodedWindow := by
  intro s later i rest hv hlive hframed hreq ha hdecode
  have hclass : s.headClass = some i := by rw [State.headClass, hdecode]
  exact step_of_scan hv ⟨hlive, hframed, hreq⟩ ha hclass

/-- A placed word is the window at the scan head. -/
theorem withFetchWord_headClass (s : State) (w : Nat) :
    (s.withFetchWord 32 w).headClass = decodeTableWord 32 w := rfl

/-- Settles O52: placing a word starts the scan loop on its window and offers the parser's step. -/
theorem placedWordIsRunNext : Obligations.PlacedWordIsRunNext := by
  intro s w i hv hi
  have hclass : (s.withFetchWord 32 w).headClass = some i := (withFetchWord_headClass s w).trans hi
  have hscan : (s.withFetchWord 32 w).Parsing := ⟨rfl, rfl, rfl⟩
  have hvalid : (s.withFetchWord 32 w).cfg.Valid := hv
  obtain ⟨hstep, -⟩ := step_of_scan hvalid hscan rfl hclass
  exact hstep

/-- Settles O51: the link state selects the operation, and its guard is the chunk's bounds. -/
theorem arrivingChunkIsTakenByLinkState : Obligations.ArrivingChunkIsTakenByLinkState := by
  intro s later c hv hlive ha hne
  have hlen : 1 ≤ c.length := List.length_pos_of_ne_nil hne
  refine ⟨fun hframed hidle hroom => ?_, fun hpass hroom => ?_⟩
  · have hselect : selectArrival c (s.setAgenda later) = .rxChunk c := by
      rw [selectArrival, State.setAgenda_linkState, hframed]
    refine step_of_enabled hv hlive ha (by rw [serve, hselect]) ?_
    exact exec_enabled_iff.2 ⟨hlive, hframed, hidle, hlen, hroom⟩
  · have hselect : selectArrival c (s.setAgenda later) = .rawForward c := by
      rw [selectArrival, State.setAgenda_linkState, hpass]
    refine step_of_enabled hv hlive ha (by rw [serve, hselect]) ?_
    exact exec_enabled_iff.2 ⟨hlive, hpass, hlen, hroom⟩

/-- Every acceptance operation asks for its port to be free (R93). -/
theorem portFree_of_selectDatagram_guard {k : SubStream} {d : List Byte}
    (hg : Guard s (selectDatagram k d s)) : s.PortFree k := by
  obtain h | ⟨rfl, h⟩ | h | h := selectDatagram_cases s k d <;>
  · rw [h] at hg
    exact hg.1

/-- Settles O59: on a free port the selected operation is enabled, on any other its offer lapses. -/
theorem arrivingDatagramIsTakenByTheTable : Obligations.ArrivingDatagramIsTakenByTheTable := by
  intro s later k d hv hlive ha
  refine ⟨fun hpending hlock => ?_, fun hbusy => ?_⟩
  · have hfree : (s.setAgenda later).PortFree k :=
      ⟨hlive, (State.setAgenda_pending s later k).trans hpending, hlock⟩
    exact step_of_enabled (i := selectDatagram k d (s.setAgenda later)) hv hlive ha rfl
      (exec_enabled_iff.2 (selectDatagram_guard hfree d))
  · have hguard : ¬ Guard (s.setAgenda later) (selectDatagram k d (s.setAgenda later)) := by
      intro hg
      obtain ⟨-, hpending, hlock⟩ := portFree_of_selectDatagram_guard hg
      exact hbusy ⟨(State.setAgenda_pending s later k).symm.trans hpending, hlock⟩
    obtain ⟨-, hrefused, -⟩ := exec_decidedBy_guard (selectDatagram k d (s.setAgenda later)) _
    obtain ⟨m, hm⟩ := hrefused hguard hlive
    rw [step_of_event hv hlive ha]
    exact attempt_of_notEnabled hm

end Fetch

end Sys2Proof.Machine

/-! PROOFS. The header codec of spec/40_header_codec.md: the header bytes as numbers, the checksum (R63),
ENCODE and DECODE as inverses (R64 to R66), what DECODE detects (R67), and the operations' answers. -/

namespace Sys2Proof

/-! ### The header bytes and the header's fields as numbers (R50 to R52, R64, R65) -/

theorem headerByte1_toNat (t : SubStream) (n : Len) :
    (headerByte1 t n).toNat = (if t = .secondary then 128 else 0) + n.toNat / 256 := by
  have hn : n.toNat < 2 ^ 15 := n.isLt
  have hhigh : ((n >>> 8).setWidth 8 : Byte).toNat = n.toNat / 256 := by
    rw [BitVec.toNat_setWidth, BitVec.toNat_ushiftRight, Nat.shiftRight_eq_div_pow]
    omega
  unfold headerByte1
  rw [BitVec.toNat_or, hhigh]
  cases t with
  | primary => simp [tagBit]
  | secondary => exact (Nat.two_pow_add_eq_or_of_lt (i := 7) (by omega) 1).symm

theorem headerByte2_toNat (n : Len) : (headerByte2 n).toNat = n.toNat % 256 := BitVec.toNat_setWidth _ _

/-- A length up to `0x7FFF` is the value of its field (R51). -/
theorem len_ofNat_toNat {n : Nat} (hn : n ≤ 0x7FFF) : (BitVec.ofNat 15 n).toNat = n :=
  (BitVec.toNat_ofNat n 15).trans (Nat.mod_eq_of_lt (by omega))

/-- The tag of byte 1 is its part above 127, because byte 1 is the header byte of its own fields. -/
theorem tagOf_eq_div (b1 : Byte) :
    tagOf b1 = if b1.toNat / 128 = 1 then SubStream.secondary else SubStream.primary := by
  have h1 := headerByte1_toNat (tagOf b1) (lenOf b1 0)
  rw [headerByte1_fields] at h1
  have hn : (lenOf b1 0).toNat < 2 ^ 15 := (lenOf b1 0).isLt
  cases htag : tagOf b1 with
  | primary =>
    rw [htag, if_neg SubStream.noConfusion] at h1
    rw [if_neg (by omega)]
  | secondary =>
    rw [htag, if_pos rfl] at h1
    rw [if_pos (by omega)]

/-- The length is the bytes' 15 bits, big-endian (R39). -/
theorem lenOf_toNat (b1 b2 : Byte) : (lenOf b1 b2).toNat = b1.toNat % 128 * 256 + b2.toNat := by
  have h1 := headerByte1_toNat (tagOf b1) (lenOf b1 b2)
  have h2 := headerByte2_toNat (lenOf b1 b2)
  rw [headerByte1_fields] at h1
  rw [headerByte2_fields] at h2
  have hn : (lenOf b1 b2).toNat < 2 ^ 15 := (lenOf b1 b2).isLt
  split at h1
  · omega
  · omega

/-! ### The checksum (R63) -/

section Checksum

variable (b0 b1 b2 e : Byte)

theorem checksum_xor_mid : checksum b0 (b1 ^^^ e) b2 = checksum b0 b1 b2 ^^^ e := by
  simp only [checksum, BitVec.xor_assoc, BitVec.xor_comm e b2]

theorem checksum_xor_last : checksum b0 b1 (b2 ^^^ e) = checksum b0 b1 b2 ^^^ e :=
  (BitVec.xor_assoc _ _ _).symm

theorem checksum_swap : checksum b0 b2 b1 = checksum b0 b1 b2 := by
  simp only [checksum, BitVec.xor_assoc, BitVec.xor_comm b2 b1]

theorem checksum_mid_inj {x : Byte} : checksum b0 x b2 = checksum b0 b1 b2 ↔ x = b1 :=
  (BitVec.xor_left_inj _).trans (BitVec.xor_right_inj _)

theorem checksum_last_inj {x : Byte} : checksum b0 b1 x = checksum b0 b1 b2 ↔ x = b2 :=
  BitVec.xor_right_inj _

end Checksum

/-! ### DECODE on valid headers, and what it detects (R65, R67) -/

/-- DECODE gives back the fields that the header bytes were made of. -/
theorem decodeHeader_headerBytes (t : SubStream) (n : Len) :
    decodeHeader magic (headerByte1 t n) (headerByte2 n)
      (checksum magic (headerByte1 t n) (headerByte2 n)) = some ⟨t, n⟩ :=
  (decodeHeader_eq_some_iff _ _ _ _ _).2 ⟨rfl, rfl, by rw [tagOf_headerByte1, lenOf_headerBytes]⟩

/-- A window that decodes to a header is that header's bytes. -/
theorem headerBytes_of_decodeHeader {b0 b1 b2 b3 : Byte} {h : Header}
    (hdecode : decodeHeader b0 b1 b2 b3 = some h) : headerBytes h.tag h.len = [b0, b1, b2, b3] := by
  obtain ⟨rfl, rfl, rfl⟩ := (decodeHeader_eq_some_iff _ _ _ _ _).1 hdecode
  simp only [headerBytes, headerByte1_fields, headerByte2_fields]

theorem decodeHeader_of_checksum (b1 b2 : Byte) {b3 : Byte} (h3 : b3 = checksum magic b1 b2) :
    decodeHeader magic b1 b2 b3 = some ⟨tagOf b1, lenOf b1 b2⟩ :=
  (decodeHeader_eq_some_iff _ _ _ _ _).2 ⟨rfl, h3, rfl⟩

theorem decodeHeader_of_bad_checksum {b0 b1 b2 b3 : Byte} (h3 : b3 ≠ checksum b0 b1 b2) :
    decodeHeader b0 b1 b2 b3 = none := (decodeHeader_eq_none_iff _ _ _ _).2 (.inr h3)

/-- Swapped length bytes give the same length only where they are equal: byte 2 is its low part. -/
theorem lenOf_swap_inj {b1 b2 : Byte} (h : lenOf b2 b1 = lenOf b1 b2) : b1 = b2 :=
  calc b1 = headerByte2 (lenOf b2 b1) := (headerByte2_fields b2 b1).symm
    _ = headerByte2 (lenOf b1 b2) := congrArg headerByte2 h
    _ = b2 := headerByte2_fields b1 b2

theorem getLsbD_seven_of_tagOf_eq {b b' : Byte} (h : tagOf b = tagOf b') :
    b.getLsbD 7 = b'.getLsbD 7 := by
  rw [← tagBit_tagOf_getLsbD b, h, tagBit_tagOf_getLsbD]

/-- The checksum is injective in each byte, so a change of one byte alone is detected. -/
theorem decodeHeader_eq_none_of_one_byte {b1 b2 b3 : Byte} (h3 : b3 = checksum magic b1 b2) (x : Byte) :
    (x ≠ magic → decodeHeader x b1 b2 b3 = none) ∧ (x ≠ b1 → decodeHeader magic x b2 b3 = none) ∧
      (x ≠ b2 → decodeHeader magic b1 x b3 = none) ∧ (x ≠ b3 → decodeHeader magic b1 b2 x = none) := by
  subst h3
  refine ⟨fun hx => ?_, fun hx => ?_, fun hx => ?_, decodeHeader_of_bad_checksum⟩
  · exact (decodeHeader_eq_none_iff _ _ _ _).2 (.inl hx)
  · exact decodeHeader_of_bad_checksum fun hsum => hx ((checksum_mid_inj _ _ _).1 hsum.symm)
  · exact decodeHeader_of_bad_checksum fun hsum => hx ((checksum_last_inj _ _ _).1 hsum.symm)

/-- One value changed into two of bytes 1, 2 and 3 cancels in the checksum. -/
theorem decodeHeader_isSome_of_xor_pair {b1 b2 b3 : Byte} (h3 : b3 = checksum magic b1 b2) (e : Byte) :
    (decodeHeader magic (b1 ^^^ e) b2 (b3 ^^^ e)).isSome ∧
      (decodeHeader magic b1 (b2 ^^^ e) (b3 ^^^ e)).isSome ∧
      (decodeHeader magic (b1 ^^^ e) (b2 ^^^ e) b3).isSome := by
  subst h3
  have hboth : checksum magic b1 b2 = checksum magic (b1 ^^^ e) (b2 ^^^ e) := by
    rw [checksum_xor_mid, checksum_xor_last, BitVec.xor_assoc, BitVec.xor_self, BitVec.xor_zero]
  exact ⟨Option.isSome_of_eq_some (decodeHeader_of_checksum _ _ (checksum_xor_mid magic b1 b2 e).symm),
    Option.isSome_of_eq_some (decodeHeader_of_checksum _ _ (checksum_xor_last magic b1 b2 e).symm),
    Option.isSome_of_eq_some (decodeHeader_of_checksum _ _ hboth)⟩

/-- Settles O6: a valid header has its checksum, which sees one byte's change and neither a pair's nor
the swap of bytes 1 and 2. -/
theorem singleByteErrorsAreDetected : Obligations.SingleByteErrorsAreDetected := by
  intro b0 b1 b2 b3 h hdecode
  obtain ⟨rfl, h3, rfl⟩ := (decodeHeader_eq_some_iff _ _ _ _ _).1 hdecode
  refine ⟨decodeHeader_eq_none_of_one_byte h3, decodeHeader_isSome_of_xor_pair h3, ?_⟩
  have hswap := decodeHeader_of_checksum b2 b1 (h3.trans (checksum_swap magic b1 b2).symm)
  refine ⟨_, hswap, fun hne hlen => ?_, fun hne htag => ?_⟩
  · exact hne (lenOf_swap_inj hlen)
  · exact hne (getLsbD_seven_of_tagOf_eq htag).symm

end Sys2Proof

namespace Sys2Proof.Machine

/-! ### The round trip up to `MAX_PAYLOAD` (R66) -/

/-- ENCODE of a payload length that fits answers the header bytes, and the length fits its field. -/
theorem encodeHeader_of_valid {p : Params} (hp : p.Valid) (t : SubStream) {n : Nat}
    (hn : n ≤ p.maxPayload) :
    n ≤ 0x7FFF ∧ encodeHeader p t n = some (headerBytes t (BitVec.ofNat 15 n)) := by
  obtain ⟨bytes, hbytes⟩ := Option.ne_none_iff_exists'.1 (encodeHeader_ne_none_of_valid hp t hn)
  obtain ⟨hfield, -, rfl⟩ := (encodeHeader_eq_some_iff _ _ _ _).1 hbytes
  exact ⟨hfield, hbytes⟩

/-- Settles O5: a length that fits is that of its header bytes, and a window is its header's bytes. -/
theorem headerCodecRoundTrip : Obligations.HeaderCodecRoundTrip := by
  intro p hp
  refine ⟨fun t n hn => ?_, fun b0 b1 b2 b3 t len hdecode hlen => ?_⟩
  · obtain ⟨hfield, hencode⟩ := encodeHeader_of_valid hp t hn
    refine ⟨_, _, _, _, hencode, BitVec.ofNat 15 n, decodeHeader_headerBytes t _, ?_⟩
    exact len_ofNat_toNat hfield
  · obtain ⟨-, hencode⟩ := encodeHeader_of_valid hp t hlen
    rw [hencode, BitVec.ofNat_toNat, BitVec.setWidth_eq, headerBytes_of_decodeHeader hdecode]

/-! ### The codec's operations: the answer is recorded, and nothing else changes (R63 to R65) -/

section Codec

variable (s : State)

theorem exec_checksum (b0 b1 b2 : Byte) :
    exec (.checksum b0 b1 b2) s = .next (s.setRet (.checksum (checksum b0 b1 b2))) := rfl

theorem exec_encode_of_some {t : SubStream} {n : Nat} {bytes : List Byte}
    (h : encodeHeader s.cfg t n = some bytes) :
    exec (.encode t n) s = .next (s.setRet (.encoded bytes)) := by
  change execEncode t n s = _
  rw [execEncode, h]

theorem exec_encode_of_none {t : SubStream} {n : Nat} (h : encodeHeader s.cfg t n = none) :
    exec (.encode t n) s = .next (s.setRet .invalidLength) := by
  change execEncode t n s = _
  rw [execEncode, h]

theorem exec_decode_of_some {b0 b1 b2 b3 : Byte} {h : Header}
    (hdecode : decodeHeader b0 b1 b2 b3 = some h) :
    exec (.decode b0 b1 b2 b3) s = .next (s.setRet (.decoded h)) := by
  change execDecode b0 b1 b2 b3 s = _
  rw [execDecode, hdecode]

theorem exec_decode_of_none {b0 b1 b2 b3 : Byte} (hdecode : decodeHeader b0 b1 b2 b3 = none) :
    exec (.decode b0 b1 b2 b3) s = .next (s.setRet .notAFrame) := by
  change execDecode b0 b1 b2 b3 s = _
  rw [execDecode, hdecode]

end Codec

/-- Settles O7: CHECKSUM has no guard and records the checksum of R63. -/
theorem checksumReturnsXor : Obligations.ChecksumReturnsXor := exec_checksum

/-- Settles O8: bytes 1 and 2 are fixed by their numbers. -/
theorem encodeReturnsHeaderOrInvalidLength : Obligations.EncodeReturnsHeaderOrInvalidLength := by
  intro s t n
  refine ⟨fun hbad => exec_encode_of_none s ((encodeHeader_eq_none_iff _ _ _).2 hbad),
    fun hfield hfits b1 b2 h1 h2 => ?_⟩
  have hn : (BitVec.ofNat 15 n).toNat = n := len_ofNat_toNat hfield
  obtain rfl : b1 = headerByte1 t (BitVec.ofNat 15 n) :=
    BitVec.eq_of_toNat_eq (by rw [h1, headerByte1_toNat, hn])
  obtain rfl : b2 = headerByte2 (BitVec.ofNat 15 n) :=
    BitVec.eq_of_toNat_eq (by rw [h2, headerByte2_toNat, hn])
  exact exec_encode_of_some s ((encodeHeader_eq_some_iff _ _ _ _).2 ⟨hfield, hfits, rfl⟩)

/-- Settles O9: the tag and the length are fixed by the numbers of bytes 1 and 2. -/
theorem decodeReturnsHeaderOrNotAFrame : Obligations.DecodeReturnsHeaderOrNotAFrame := by
  intro s b0 b1 b2 b3
  refine ⟨fun hbad => exec_decode_of_none s ((decodeHeader_eq_none_iff _ _ _ _).2 hbad),
    fun h0 h3 t len ht hlen => ?_⟩
  obtain rfl : t = tagOf b1 := ht.trans (tagOf_eq_div b1).symm
  obtain rfl : len = lenOf b1 b2 := BitVec.eq_of_toNat_eq (by rw [hlen, lenOf_toNat])
  exact exec_decode_of_some s ((decodeHeader_eq_some_iff _ _ _ _ _).2 ⟨h0, h3, rfl⟩)

end Sys2Proof.Machine

/-! PROOFS. The frame parser of spec/41_frame_parser.md: what each operation of the scan loop does (R70 to
R77), the selection table and the bound of the loop (R78), the timer (R79, R80), the latch (R74, R87), and
the room a waiting parser has (R83). -/

namespace Sys2Proof.Machine

section Scan

variable {s t : State}

/-! ### What an operation of the scan loop does -/

/-- The operations of the scan loop (R78). -/
def scanOperations : List Instr :=
  [.parseIdle, .parseSlide, .parseLatch, .parseTooLarge, .parseWait, .parseDispatch]

/-- The operations of the scan loop in a state where the loop runs: each with its guard and next state. -/
inductive ScanEffect (s : State) : Instr → State → Prop where
  /-- PARSE_IDLE (R71). -/
  | idle (hshort : s.buf.length < 4) : ScanEffect s .parseIdle (s.setScanReq false)
  /-- PARSE_SLIDE (R72). -/
  | slide (hbuf : 4 ≤ s.buf.length) (hhead : s.headHeader = none) (hintime : ¬ s.TimeoutExpired) :
      ScanEffect s .parseSlide (slideByte s)
  /-- PARSE_LATCH (R73). -/
  | latch (hbuf : 4 ≤ s.buf.length) (hhead : s.headHeader = none) (hlate : s.TimeoutExpired) :
      ScanEffect s .parseLatch (latch s)
  /-- PARSE_TOO_LARGE (R75). -/
  | reject (h : Header) (hhead : s.headHeader = some h) (hbig : s.cfg.maxFrame < 4 + h.len.toNat) :
      ScanEffect s .parseTooLarge (rejectHeader s)
  /-- PARSE_WAIT (R77). -/
  | await (h : Header) (hhead : s.headHeader = some h) (hfits : 4 + h.len.toNat ≤ s.cfg.maxFrame)
      (hshort : s.buf.length < 4 + h.len.toNat) : ScanEffect s .parseWait (awaitPayload s)
  /-- PARSE_DISPATCH (R86). -/
  | dispatch (h : Header) (hhead : s.headHeader = some h) (hfits : 4 + h.len.toNat ≤ s.cfg.maxFrame)
      (hfull : 4 + h.len.toNat ≤ s.buf.length) :
      ScanEffect s .parseDispatch (dispatchFrame s h.tag h.len.toNat)

/-- Where the scan loop runs, the effect of an operation is its step. -/
theorem ScanEffect.exec_eq {i : Instr} (h : ScanEffect s i t) (hscan : s.Parsing) :
    exec i s = .next t := by
  cases h with
  | idle hshort => exact perform_of_guard hscan.1 ⟨hscan, hshort⟩
  | slide hbuf hhead hintime => exact perform_of_guard hscan.1 ⟨hscan, hbuf, hhead, hintime⟩
  | latch hbuf hhead hlate => exact perform_of_guard hscan.1 ⟨hscan, hbuf, hhead, hlate⟩
  | reject h hhead hbig => exact exec_parseTooLarge_of_header hscan hhead hbig
  | await h hhead hfits hshort => exact exec_parseWait_of_header hscan hhead hfits hshort
  | dispatch h hhead hfits hfull => exact exec_parseDispatch_of_header hscan hhead hfits hfull

/-- The guard of an operation of the scan loop asks for the loop to run, and for what its effect asks. -/
theorem scanEffect_of_guard {i : Instr} (hi : i ∈ scanOperations) (hguard : Guard s i) :
    s.Parsing ∧ ∃ t, ScanEffect s i t := by
  simp only [scanOperations, List.mem_cons, List.not_mem_nil, or_false] at hi
  obtain rfl | rfl | rfl | rfl | rfl | rfl := hi
  · obtain ⟨hscan, hshort⟩ := hguard
    exact ⟨hscan, _, .idle hshort⟩
  · obtain ⟨hscan, hbuf, hhead, hintime⟩ := hguard
    exact ⟨hscan, _, .slide hbuf hhead hintime⟩
  · obtain ⟨hscan, hbuf, hhead, hlate⟩ := hguard
    exact ⟨hscan, _, .latch hbuf hhead hlate⟩
  · obtain ⟨hscan, h, hhead, hbig⟩ := hguard
    exact ⟨hscan, _, .reject h hhead hbig⟩
  · obtain ⟨hscan, h, hhead, hfits, hshort⟩ := hguard
    exact ⟨hscan, _, .await h hhead hfits hshort⟩
  · obtain ⟨hscan, h, hhead, hfits, hfull⟩ := hguard
    exact ⟨hscan, _, .dispatch h hhead hfits hfull⟩

/-- All an operation of the scan loop can do. -/
theorem exec_scanOperation_eq_next_iff {i : Instr} (hi : i ∈ scanOperations) :
    exec i s = .next t ↔ s.Parsing ∧ ScanEffect s i t := by
  refine ⟨fun h => ?_, fun ⟨hscan, he⟩ => he.exec_eq hscan⟩
  obtain ⟨hscan, u, he⟩ := scanEffect_of_guard hi (exec_enabled_iff.1 ⟨t, h⟩)
  have hu : Host.Outcome.next u = .next t := (he.exec_eq hscan).symm.trans h
  cases hu
  exact ⟨hscan, he⟩

/-- An operation whose guard is false answers no next state. -/
theorem exec_ne_next_of_not_guard {i : Instr} (hno : ¬ Guard s i) (t : State) : exec i s ≠ .next t :=
  fun h => hno (exec_enabled_iff.1 ⟨t, h⟩)

/-- For an operation of the scan loop, with its guard written out: the part all of them share (R78) and a
test `g` of its own. -/
theorem exec_ne_next_of_not_scan {i : Instr} {g : Prop} (hguard : Guard s i → s.Parsing ∧ g)
    (hno : ¬ (s.halted = false ∧ s.linkState = .framed ∧ s.scanReq = true ∧ g)) (t : State) :
    exec i s ≠ .next t :=
  exec_ne_next_of_not_guard (fun h =>
    have ⟨⟨hlive, hframed, hreq⟩, hg⟩ := hguard h
    hno ⟨hlive, hframed, hreq, hg⟩) t

/-! ### The guard and the effect of each (R70 to R77, R79) -/

/-- Settles O10: RX_CHUNK tests its guard first. -/
theorem rxChunkAppendsAndStartsTheScan : Obligations.RxChunkAppendsAndStartsTheScan :=
  fun s c => ⟨fun ⟨hlive, hguard⟩ => perform_of_guard hlive hguard,
    exec_ne_next_of_not_guard (s := s) (i := .rxChunk c)⟩

/-- Settles O11, by the effect of PARSE_IDLE. -/
theorem parseIdleStopsAShortScan : Obligations.ParseIdleStopsAShortScan :=
  fun _ => ⟨fun ⟨hlive, hframed, hreq, hshort⟩ =>
    (ScanEffect.idle hshort).exec_eq ⟨hlive, hframed, hreq⟩, exec_ne_next_of_not_scan id⟩

/-- Settles O12, by the effect of PARSE_SLIDE. -/
theorem parseSlideDropsOneByte : Obligations.ParseSlideDropsOneByte :=
  fun _ => ⟨fun ⟨hlive, hframed, hreq, hbuf, hhead, hintime⟩ =>
    (ScanEffect.slide hbuf hhead hintime).exec_eq ⟨hlive, hframed, hreq⟩, exec_ne_next_of_not_scan id⟩

/-- With a window buffered there is something left to flush (R73, R88). -/
theorem latch_of_four_le (hbuf : 4 ≤ s.buf.length) :
    latch s = { s with linkState := .passthrough, buf := [], scanReq := false,
                       outHist0 := s.outHist0 ++ [s.buf.drop 1],
                       dispHist := s.dispHist ++ [(.primary, s.buf.drop 1)] } := by
  have hrest : s.buf.drop 1 ≠ [] := List.ne_nil_of_length_pos (by rw [List.length_drop]; omega)
  rw [latch_eq, if_neg hrest]

/-- Settles O13, by the effect of PARSE_LATCH, whose flush is not empty. -/
theorem parseLatchFlushesTheRest : Obligations.ParseLatchFlushesTheRest := by
  refine fun s => ⟨fun ⟨hlive, hframed, hreq, hbuf, hhead, hlate⟩ => ?_, exec_ne_next_of_not_scan id⟩
  rw [← latch_of_four_le hbuf]
  exact (ScanEffect.latch hbuf hhead hlate).exec_eq ⟨hlive, hframed, hreq⟩

/-- Dropping the bytes before the first `a` drops as many as its index says. -/
theorem dropWhile_ne_eq_drop {a : Byte} {l : List Byte} {i : Nat} (ha : l[i]? = some a)
    (hleast : ∀ j < i, l[j]? ≠ some a) : l.dropWhile (fun b => b != a) = l.drop i := by
  induction l generalizing i with
  | nil => cases ha
  | cons x tail ih =>
    cases i with
    | zero =>
      obtain rfl : x = a := by simpa using ha
      simp
    | succ i =>
      have hx : x ≠ a := by simpa using hleast 0 (Nat.succ_pos i)
      rw [List.dropWhile_cons_of_pos (by simpa using hx), List.drop_succ_cons]
      exact ih (by simpa using ha) fun j hj => by simpa using hleast (j + 1) (Nat.succ_lt_succ hj)

/-- Resynchronisation keeps the buffer from the least magic index after the head (R76). -/
theorem resync_eq_drop {b : List Byte} {i : Nat} (hi : 1 ≤ i) (hmagic : b[i]? = some magic)
    (hleast : ∀ j, 1 ≤ j → j < i → b[j]? ≠ some magic) : resync b = b.drop i := by
  obtain ⟨i, rfl⟩ := Nat.exists_eq_add_of_le' hi
  cases b with
  | nil => cases hmagic
  | cons x tail =>
    exact dropWhile_ne_eq_drop (by simpa using hmagic) fun j hj => by
      simpa using hleast (j + 1) (Nat.le_add_left 1 j) (Nat.succ_lt_succ hj)

/-- With no magic byte after the head it discards everything (R76). -/
theorem resync_eq_nil {b : List Byte} (hnone : ∀ j, 1 ≤ j → b[j]? ≠ some magic) : resync b = [] := by
  cases b with
  | nil => rfl
  | cons x tail =>
    refine List.dropWhile_eq_nil_iff.2 fun y hy => ?_
    obtain ⟨j, hj⟩ := List.mem_iff_getElem?.1 hy
    have hne : y ≠ magic := fun h => hnone (j + 1) (Nat.le_add_left 1 j) (by simpa [← h] using hj)
    simpa using hne

/-- Settles O14: the resynchronised buffer is found by its least magic index, or is empty. -/
theorem parseTooLargeResynchronises : Obligations.ParseTooLargeResynchronises := by
  refine fun s => ⟨fun h hlive hframed hreq hhead hbig => ?_, exec_ne_next_of_not_scan id⟩
  have hexec : exec .parseTooLarge s = .next (rejectHeader s) :=
    (ScanEffect.reject h hhead hbig).exec_eq ⟨hlive, hframed, hreq⟩
  rw [hexec]
  refine ⟨fun i hi hmagic hleast => ?_, fun hnone => ?_⟩
  · rw [rejectHeader, resync_eq_drop hi hmagic hleast]
    rfl
  · rw [rejectHeader, resync_eq_nil hnone]
    rfl

/-- Settles O15, by the effect of PARSE_WAIT. -/
theorem parseWaitKeepsTheBuffer : Obligations.ParseWaitKeepsTheBuffer :=
  fun _ => ⟨fun h hlive hframed hreq hhead hfits hshort =>
    (ScanEffect.await h hhead hfits hshort).exec_eq ⟨hlive, hframed, hreq⟩, exec_ne_next_of_not_scan id⟩

/-- Settles O16: the guard of TICK is that the block is live. -/
theorem tickSaturates : Obligations.TickSaturates :=
  fun s => ⟨fun hlive => perform_of_guard hlive trivial,
    fun hhalted => exec_ne_next_of_not_guard fun hlive : s.halted = false =>
      Bool.false_ne_true (hlive.symm.trans hhalted)⟩

/-! ### The selection table and the bound of the loop (R78) -/

/-- An iteration that keeps the loop running found a window, and shortens the buffer. -/
theorem ScanEffect.shortens {i : Instr} (h : ScanEffect s i t) (hrun : t.scanReq = true) :
    4 ≤ s.buf.length ∧ t.buf.length < s.buf.length := by
  cases h with
  | idle => cases hrun
  | slide hbuf =>
    refine ⟨hbuf, ?_⟩
    simp only [slideByte, State.setBuf_buf, List.length_drop]
    omega
  | latch => cases hrun
  | reject h hhead =>
    have hbuf := four_le_of_headHeader hhead
    exact ⟨hbuf, resync_length_lt (List.ne_nil_of_length_pos (Nat.zero_lt_of_lt hbuf))⟩
  | await => cases hrun
  | dispatch h hhead =>
    have hbuf := four_le_of_headHeader hhead
    refine ⟨hbuf, ?_⟩
    simp only [dispatchFrame, State.setBuf_buf, List.length_drop]
    omega

/-- It also keeps the block live and framed. -/
theorem ScanEffect.parsing {i : Instr} (h : ScanEffect s i t) (hscan : s.Parsing)
    (hrun : t.scanReq = true) : t.Parsing := by
  cases h with
  | idle => cases hrun
  | slide => exact hscan
  | latch => cases hrun
  | reject => exact hscan
  | await => cases hrun
  | dispatch => simpa [State.Parsing, dispatchFrame] using hscan

/-- Some effect answers exactly in the row of the table that names the operation. -/
theorem scanEffect_iff_row {i : Instr} : (∃ t, ScanEffect s i t) ↔
    (s.buf.length < 4 ∧ i = .parseIdle) ∨
    (4 ≤ s.buf.length ∧ s.headHeader = none ∧ s.sinceFrame ≤ s.cfg.timeout ∧ i = .parseSlide) ∨
    (4 ≤ s.buf.length ∧ s.headHeader = none ∧ s.cfg.timeout < s.sinceFrame ∧ i = .parseLatch) ∨
    (4 ≤ s.buf.length ∧ ∃ h, s.headHeader = some h ∧
      ((s.cfg.maxFrame < 4 + h.len.toNat ∧ i = .parseTooLarge) ∨
       (4 + h.len.toNat ≤ s.cfg.maxFrame ∧ s.buf.length < 4 + h.len.toNat ∧ i = .parseWait) ∨
       (4 + h.len.toNat ≤ s.cfg.maxFrame ∧ 4 + h.len.toNat ≤ s.buf.length ∧ i = .parseDispatch))) := by
  constructor
  · rintro ⟨t, he⟩
    cases he with
    | idle hshort => exact .inl ⟨hshort, rfl⟩
    | slide hbuf hhead hintime => exact .inr (.inl ⟨hbuf, hhead, Nat.not_lt.1 hintime, rfl⟩)
    | latch hbuf hhead hlate => exact .inr (.inr (.inl ⟨hbuf, hhead, hlate, rfl⟩))
    | reject h hhead hbig =>
      exact .inr (.inr (.inr ⟨four_le_of_headHeader hhead, h, hhead, .inl ⟨hbig, rfl⟩⟩))
    | await h hhead hfits hshort =>
      exact .inr (.inr (.inr ⟨four_le_of_headHeader hhead, h, hhead, .inr (.inl ⟨hfits, hshort, rfl⟩)⟩))
    | dispatch h hhead hfits hfull =>
      exact .inr (.inr (.inr ⟨four_le_of_headHeader hhead, h, hhead, .inr (.inr ⟨hfits, hfull, rfl⟩)⟩))
  · rintro (⟨hshort, rfl⟩ | ⟨hbuf, hhead, hintime, rfl⟩ | ⟨hbuf, hhead, hlate, rfl⟩ |
      ⟨-, h, hhead, ⟨hbig, rfl⟩ | ⟨hfits, hshort, rfl⟩ | ⟨hfits, hfull, rfl⟩⟩)
    · exact ⟨_, .idle hshort⟩
    · exact ⟨_, .slide hbuf hhead (Nat.not_lt.2 hintime)⟩
    · exact ⟨_, .latch hbuf hhead hlate⟩
    · exact ⟨_, .reject h hhead hbig⟩
    · exact ⟨_, .await h hhead hfits hshort⟩
    · exact ⟨_, .dispatch h hhead hfits hfull⟩

/-- Settles O21: the rows of the table are the guards of the six operations, and an iteration either stops
the loop or shortens the buffer. -/
theorem scanSelectsExactlyOneOperation : Obligations.ScanSelectsExactlyOneOperation := by
  intro s i hi
  have hexec : ∀ t, exec i s = .next t ↔ s.Parsing ∧ ScanEffect s i t :=
    fun t => exec_scanOperation_eq_next_iff hi
  refine ⟨fun hno t h => hno ((hexec t).1 h).1, fun hlive hframed hreq => ⟨?_, fun t h hrun => ?_⟩⟩
  · have hscan : s.Parsing := ⟨hlive, hframed, hreq⟩
    simp only [hexec, and_iff_right hscan]
    exact scanEffect_iff_row
  · obtain ⟨-, he⟩ := (hexec t).1 h
    obtain ⟨-, hshorter⟩ := he.shortens hrun
    exact hshorter

/-- The table of R78 names one of the six operations, in a row that holds. -/
theorem selectParse_effect (s : State) : ∃ t, ScanEffect s (selectParse s) t := by
  unfold selectParse
  split
  · next hshort => exact ⟨_, .idle hshort⟩
  · next hbuf =>
    rw [Nat.not_lt] at hbuf
    split
    · next hhead =>
      split
      · next hlate => exact ⟨_, .latch hbuf hhead hlate⟩
      · next hintime => exact ⟨_, .slide hbuf hhead hintime⟩
    · next h hhead =>
      split
      · next hbig => exact ⟨_, .reject h hhead hbig⟩
      · next hfits =>
        rw [Nat.not_lt] at hfits
        split
        · next hshort => exact ⟨_, .await h hhead hfits hshort⟩
        · next hfull => exact ⟨_, .dispatch h hhead hfits (Nat.not_lt.1 hfull)⟩

/-- The scan loop takes no step once it has stopped. -/
theorem scanLoop_of_stopped (hreq : s.scanReq = false) (n : Nat) : scanLoop n s = .next s := by
  cases n with
  | zero => rfl
  | succ n => simp [scanLoop, hreq]

/-- A running scan loop takes the selected operation and goes on. -/
theorem scanLoop_succ (hreq : s.scanReq = true) (h : exec (selectParse s) s = .next t) (n : Nat) :
    scanLoop (n + 1) s = scanLoop n t := by
  simp [scanLoop, hreq, h]

/-- A running scan loop stops within as many operations as bytes are buffered, and at least one: an
iteration that goes on leaves fewer bytes, and had 4 before. -/
theorem scanLoop_stops (n : Nat) (hscan : s.Parsing) (hpos : 1 ≤ n) (hn : s.buf.length ≤ n) :
    ∃ t, scanLoop n s = .next t ∧ t.scanReq = false := by
  induction n generalizing s with
  | zero => exact absurd hpos (Nat.not_succ_le_zero 0)
  | succ n ih =>
    obtain ⟨u, he⟩ := selectParse_effect s
    have ⟨_, _, hreq⟩ := hscan
    rw [scanLoop_succ hreq (he.exec_eq hscan)]
    cases hu : u.scanReq with
    | false => exact ⟨u, scanLoop_of_stopped hu n, hu⟩
    | true =>
      obtain ⟨hbuf, hshorter⟩ := he.shortens hu
      exact ih (he.parsing hscan hu) (by omega) (by omega)

/-- Settles O22: the loop is given one operation per buffered byte, and at least one. -/
theorem scanLoopEndsWithinTheBuffer : Obligations.ScanLoopEndsWithinTheBuffer :=
  fun _ hlive hframed hreq =>
    scanLoop_stops _ ⟨hlive, hframed, hreq⟩ (Nat.le_max_left _ _) (Nat.le_max_right _ _)

end Scan

/-! ### The writers of the latch and of the timer (R74, R80) -/

section LatchAndTimer

variable {s t : State}

/-- A class at the scan head runs as the operation that the table of R78 selects (log 7). -/
theorem selectParse_effect_of_class {i : Instr} (hscan : s.Parsing) (hclass : s.headClass = some i)
    (h : exec i s = .next t) : ScanEffect s (selectParse s) t := by
  have ⟨hlive, hframed, hreq⟩ := hscan
  obtain ⟨u, hfetched, hselected⟩ := fetchedClassRunsTheSelectedOperation s hlive hframed hreq
  rw [parserInstr_of_headClass hclass, h] at hfetched
  obtain ⟨v, he⟩ := selectParse_effect s
  rw [he.exec_eq hscan] at hselected
  cases hfetched
  cases hselected
  exact he

/-- Every step of the inbound parser takes a chunk, or is an iteration of a running scan loop: a header
class runs as one. -/
theorem exec_inbound_cases {i : Instr} (hi : Inbound i) (h : exec i s = .next t) :
    (∃ c, i = .rxChunk c ∧ s.linkState = .framed ∧ t = (s.setBuf (s.buf ++ c)).setScanReq true) ∨
      (∃ c, i = .rawForward c ∧ t = s.emit .primary c) ∨ s.Parsing ∧ ∃ j, ScanEffect s j t := by
  have ofClass (hclass : s.Parsing ∧ s.headClass = some i) : s.Parsing ∧ ∃ j, ScanEffect s j t :=
    have ⟨hscan, hhead⟩ := hclass
    ⟨hscan, _, selectParse_effect_of_class hscan hhead h⟩
  have ofScan (hmem : i ∈ scanOperations) : s.Parsing ∧ ∃ j, ScanEffect s j t :=
    have ⟨hscan, he⟩ := (exec_scanOperation_eq_next_iff hmem).1 h
    ⟨hscan, i, he⟩
  have hguard : Guard s i := exec_enabled_iff.1 ⟨t, h⟩
  cases i with
  | hdrPrimary len => exact .inr (.inr (ofClass hguard))
  | hdrSecondary len => exact .inr (.inr (ofClass hguard))
  | nafMagic b0 b1 b2 b3 => exact .inr (.inr (ofClass hguard))
  | nafChecksum b1 b2 b3 => exact .inr (.inr (ofClass hguard))
  | rxChunk c =>
    obtain ⟨-, ⟨hframed, -⟩, rfl⟩ := perform_eq_next_iff.1 h
    exact .inl ⟨c, rfl, hframed, rfl⟩
  | rawForward c =>
    obtain ⟨-, -, rfl⟩ := perform_eq_next_iff.1 h
    exact .inr (.inl ⟨c, rfl, rfl⟩)
  | parseIdle | parseSlide | parseLatch | parseTooLarge | parseWait | parseDispatch =>
    exact .inr (.inr (ofScan (by decide)))
  | _ => exact hi.elim

/-- Only PARSE_LATCH and RESET write the latch, and PARSE_LATCH sets it (R74). -/
theorem exec_linkState_ne {i : Instr} (hreset : i ≠ .reset) (h : exec i s = .next t)
    (hne : t.linkState ≠ s.linkState) :
    s.linkState = .framed ∧ t.linkState = .passthrough ∧ exec .parseLatch s = .next t := by
  obtain ⟨hwriter, -⟩ := eachElementHasItsWriters i s t h hreset
  obtain ⟨c, -, -, rfl⟩ | ⟨c, -, rfl⟩ | ⟨hscan, j, he⟩ := exec_inbound_cases (hwriter (.inr (.inr hne))) h
  · exact absurd rfl hne
  · exact absurd rfl hne
  · cases he with
    | latch hbuf hhead hlate =>
      have ⟨_, hframed, _⟩ := hscan
      exact ⟨hframed, rfl, (ScanEffect.latch hbuf hhead hlate).exec_eq hscan⟩
    | dispatch => exact absurd (by simp [dispatchFrame]) hne
    | _ => exact absurd rfl hne

/-- So a latched link stays latched until a RESET. -/
theorem exec_keeps_passthrough {i : Instr} (hreset : i ≠ .reset) (hpass : s.linkState = .passthrough)
    (h : exec i s = .next t) : t.linkState = .passthrough := by
  by_contra hleft
  obtain ⟨hframed, -⟩ := exec_linkState_ne hreset h (hpass.symm ▸ hleft)
  rw [hpass] at hframed
  cases hframed

/-- A run of operations is its first operation and the run of the others. -/
theorem runOps_cons_eq_next {i : Instr} {is : List Instr} (h : runOps (i :: is) s = .next t) :
    ∃ u, exec i s = .next u ∧ runOps is u = .next t := by
  unfold runOps at h
  split at h
  · next u hu => exact ⟨u, hu, h⟩
  · cases h
  · cases h

/-- Over a run without a RESET it stays latched too. -/
theorem runOps_keeps_passthrough {ops : List Instr} (hreset : .reset ∉ ops)
    (hpass : s.linkState = .passthrough) (h : runOps ops s = .next t) : t.linkState = .passthrough := by
  induction ops generalizing s with
  | nil =>
    cases h
    exact hpass
  | cons i is ih =>
    rw [List.mem_cons, not_or] at hreset
    obtain ⟨hi, his⟩ := hreset
    obtain ⟨u, hu, hrest⟩ := runOps_cons_eq_next h
    exact ih his (exec_keeps_passthrough (Ne.symm hi) hpass hu) hrest

/-- No scan loop runs in Passthrough. -/
theorem not_parsing_of_passthrough (hpass : s.linkState = .passthrough) : ¬ s.Parsing := by
  rintro ⟨-, hframed, -⟩
  rw [hpass] at hframed
  cases hframed

/-- Settles O38: the writers of the latch, the part all PARSE_* guards share, and the run's induction. -/
theorem latchIsOneWay : Obligations.LatchIsOneWay := by
  refine ⟨fun i s t h hne => ?_, fun i s t hpass hi h => ?_,
    fun ops s t hreset hpass h => runOps_keeps_passthrough hreset hpass h⟩
  · exact or_iff_not_imp_left.2 fun hreset => exec_linkState_ne hreset h hne
  · obtain ⟨hscan, -⟩ := (exec_scanOperation_eq_next_iff hi).1 h
    exact not_parsing_of_passthrough hpass hscan

/-- The effects of a scan iteration that clear the timer are those on a header (R80). -/
theorem ScanEffect.sinceFrame {i : Instr} (h : ScanEffect s i t) :
    t.sinceFrame = s.sinceFrame ∨
      t.sinceFrame = 0 ∧ (∃ h, s.headHeader = some h) ∧
        (i = .parseTooLarge ∨ i = .parseWait ∨ i = .parseDispatch) := by
  cases h with
  | idle => exact .inl rfl
  | slide => exact .inl rfl
  | latch => exact .inl (by simp [latch_eq, apply_ite State.sinceFrame])
  | reject h hhead => exact .inr ⟨rfl, ⟨h, hhead⟩, .inl rfl⟩
  | await h hhead => exact .inr ⟨rfl, ⟨h, hhead⟩, .inr (.inl rfl)⟩
  | dispatch h hhead => exact .inr ⟨by simp [dispatchFrame], ⟨h, hhead⟩, .inr (.inr rfl)⟩

/-- Settles O39: of the inbound parser's steps only an iteration on a header writes the timer, and each of
the three writes 0. -/
theorem timerIsClearedByHeadersOnly : Obligations.TimerIsClearedByHeadersOnly := by
  refine ⟨fun i s t h htick hreset hne => ?_, fun s t h => ?_⟩
  · obtain ⟨-, hwriter, -⟩ := eachElementHasItsWriters i s t h hreset
    have hi : Inbound i := (hwriter hne).resolve_right htick
    obtain ⟨c, -, -, rfl⟩ | ⟨c, -, rfl⟩ | ⟨hscan, j, he⟩ := exec_inbound_cases hi h
    · exact absurd rfl hne
    · exact absurd rfl hne
    · obtain ⟨hzero, ⟨hd, hhead⟩, hj⟩ := he.sinceFrame.resolve_left hne
      have hexec := he.exec_eq hscan
      refine ⟨hzero, hd, hhead, ?_⟩
      obtain rfl | rfl | rfl := hj
      · exact .inl hexec
      · exact .inr (.inl hexec)
      · exact .inr (.inr hexec)
  · obtain h | h | h | h := h
    · obtain ⟨-, ⟨⟩⟩ := (exec_scanOperation_eq_next_iff (by decide)).1 h
      rfl
    · obtain ⟨-, ⟨⟩⟩ := (exec_scanOperation_eq_next_iff (by decide)).1 h
      rfl
    · obtain ⟨-, ⟨⟩⟩ := (exec_scanOperation_eq_next_iff (by decide)).1 h
      simp [dispatchFrame]
    · cases h
      rfl

end LatchAndTimer

/-! ### Passthrough (R82, R87, R89) -/

section Passthrough

variable {s t u : State} {ps qs : List (SubStream × List Byte)}

/-- From `s` to `t` exactly the packets `ps` are dispatched, every one of them on port 0. -/
def PipesRaw (ps : List (SubStream × List Byte)) (s t : State) : Prop :=
  t.dispHist = s.dispHist ++ ps ∧ t.outHist .primary = s.outHist .primary ++ ps.map (fun e => e.2) ∧
    t.outHist .secondary = s.outHist .secondary

/-- What leaves the dispatch and port histories alone pipes nothing. -/
theorem pipesRaw_nil (hdisp : t.dispHist = s.dispHist) (hout : ∀ k, t.outHist k = s.outHist k) :
    PipesRaw [] s t :=
  ⟨by simp [hdisp], by simp [hout], hout .secondary⟩

theorem PipesRaw.trans (h : PipesRaw ps s t) (h' : PipesRaw qs t u) : PipesRaw (ps ++ qs) s u := by
  obtain ⟨hdisp, hprimary, hsecondary⟩ := h
  obtain ⟨hdisp', hprimary', hsecondary'⟩ := h'
  refine ⟨?_, ?_, hsecondary'.trans hsecondary⟩
  · rw [hdisp', hdisp, List.append_assoc]
  · rw [hprimary', hprimary, List.map_append, List.append_assoc]

/-- Only the inbound parser dispatches (R26, R32). -/
theorem exec_pipesRaw_of_not_inbound {i : Instr} (hi : ¬ Inbound i) (h : exec i s = .next t) :
    PipesRaw [] s t := by
  cases exec_effect h with
  | inbound hin => exact absurd hin hi
  | outbound _ he =>
    cases he with
    | _ => exact pipesRaw_nil (by simp) (by simp)
  | _ => exact pipesRaw_nil (by simp) (by simp)

theorem forwardedPackets_cons (i : Instr) (is : List Instr) :
    forwardedPackets (i :: is) = forwardedPackets [i] ++ forwardedPackets is := by
  cases i with
  | rawForward c => rfl
  | _ => rfl

theorem forwardedPackets_of_not_inbound {i : Instr} (hi : ¬ Inbound i) : forwardedPackets [i] = [] := by
  cases i with
  | rawForward c => exact absurd trivial hi
  | _ => rfl

/-- In Passthrough an operation dispatches exactly the chunk it forwards (R87). -/
theorem exec_pipesRaw {i : Instr} (hpass : s.linkState = .passthrough) (h : exec i s = .next t) :
    PipesRaw (forwardedPackets [i]) s t := by
  by_cases hi : Inbound i
  · obtain ⟨c, rfl, hframed, -⟩ | ⟨c, rfl, rfl⟩ | ⟨hscan, -⟩ := exec_inbound_cases hi h
    · rw [hpass] at hframed
      cases hframed
    · exact ⟨rfl, rfl, rfl⟩
    · exact absurd hscan (not_parsing_of_passthrough hpass)
  · rw [forwardedPackets_of_not_inbound hi]
    exact exec_pipesRaw_of_not_inbound hi h

/-- Settles O44, by induction on the operations: the link stays latched, so each adds what it forwards. -/
theorem passthroughInboundIsARawPipe : Obligations.PassthroughInboundIsARawPipe := by
  intro ops
  induction ops with
  | nil =>
    rintro s _ - - ⟨⟩
    exact pipesRaw_nil rfl fun _ => rfl
  | cons i is ih =>
    intro s t hreset hpass h
    rw [List.mem_cons, not_or] at hreset
    obtain ⟨hi, his⟩ := hreset
    obtain ⟨u, hu, hrest⟩ := runOps_cons_eq_next h
    have hlater : PipesRaw (forwardedPackets is) u t :=
      ih u t his (exec_keeps_passthrough (Ne.symm hi) hpass hu) hrest
    rw [forwardedPackets_cons]
    exact (exec_pipesRaw hpass hu).trans hlater

end Passthrough

/-! ### The room of a waiting parser (R83) -/

/-- A waiting parser holds fewer than `MAX_FRAME` bytes: no window, or a frame that is not complete. -/
theorem State.Inv.buf_length_lt_maxFrame {s : State} (hs : s.Inv) (hframed : s.linkState = .framed)
    (hidle : s.scanReq = false) : s.buf.length < s.cfg.maxFrame := by
  obtain ⟨hmin, -⟩ := hs.config
  obtain hshort | ⟨h, -, hfits, hshort⟩ := hs.waiting hidle hframed
  · omega
  · omega

/-- Settles O46: the capacity of R8 is three frames, and the guard of RX_CHUNK asks for nothing else. -/
theorem waitingParserAlwaysHasRoom : Obligations.WaitingParserAlwaysHasRoom := by
  intro s hs hframed hidle
  have hlt := hs.buf_length_lt_maxFrame hframed hidle
  obtain ⟨-, -, hcap, -⟩ := hs.config
  refine ⟨hlt, by omega, fun hlive c hne hroom => ?_⟩
  exact exec_enabled_iff.2 ⟨hlive, hframed, hidle, hne, hroom⟩

end Sys2Proof.Machine

/-! PROOFS. The demultiplexer of spec/42_demultiplexer.md: PARSE_DISPATCH (R86), RAW_FORWARD (R87), and the
order of the dispatches of one chunk (R91). -/

namespace Sys2Proof.Machine

section Demultiplexer

variable {s : State}

/-! ### The guard and the effect of each dispatching operation (R86, R87) -/

/-- Settles O17, by the effect of PARSE_DISPATCH: the tag of the header names the port. -/
theorem parseDispatchEmitsThePayload : Obligations.ParseDispatchEmitsThePayload := by
  refine fun s => ⟨fun len hlive hframed hreq hfits hfull => ?_, exec_ne_next_of_not_scan id⟩
  have hexec (k : SubStream) (hhead : s.headHeader = some ⟨k, len⟩) :
      exec .parseDispatch s = .next (dispatchFrame s k len.toNat) :=
    (ScanEffect.dispatch _ hhead hfits hfull).exec_eq ⟨hlive, hframed, hreq⟩
  exact ⟨hexec .primary, hexec .secondary⟩

/-- Settles O18: RAW_FORWARD tests its guard first. -/
theorem rawForwardEmitsTheChunk : Obligations.RawForwardEmitsTheChunk :=
  fun s c => ⟨fun ⟨hlive, hguard⟩ => perform_of_guard hlive hguard,
    exec_ne_next_of_not_guard (s := s) (i := .rawForward c)⟩

/-! ### The scan loop over whole frames and over garbage -/

/-- `FRAME(k, p)` of R60. -/
def frameBytes (k : SubStream) (p : List Byte) : List Byte := headerBytes k (BitVec.ofNat 15 p.length) ++ p

@[simp] theorem frameBytes_length (k : SubStream) (p : List Byte) :
    (frameBytes k p).length = 4 + p.length := by
  rw [frameBytes, List.length_append, headerBytes_length]

/-- The state once the frame of `p` at the scan head is dispatched, `after` still to be scanned. -/
def delivered (s : State) (k : SubStream) (p after : List Byte) : State :=
  ((s.emit k p).setSinceFrame 0).setBuf after

/-- A delivery leaves the scan loop running. -/
theorem delivered_parsing {k : SubStream} {p after : List Byte} (hscan : s.Parsing) :
    (delivered s k p after).Parsing := by
  simpa [State.Parsing, delivered] using hscan

/-- A delivery clears the timer, so no timeout has passed after it (R80). -/
theorem delivered_not_timeoutExpired {k : SubStream} {p after : List Byte} :
    ¬ (delivered s k p after).TimeoutExpired :=
  Nat.not_lt_zero _

/-- A whole frame at the scan head takes one operation of the loop (R86). -/
theorem scanLoop_of_frame {k : SubStream} {p after : List Byte} (hscan : s.Parsing)
    (hlen : p.length ≤ 0x7FFF) (hfits : 4 + p.length ≤ s.cfg.maxFrame)
    (hbuf : s.buf = frameBytes k p ++ after) (n : Nat) :
    scanLoop (n + 1) s = scanLoop n (delivered s k p after) := by
  have ⟨_, _, hreq⟩ := hscan
  have hfull : ¬ s.buf.length < 4 + p.length := by
    rw [hbuf, List.length_append, frameBytes_length]
    omega
  rw [frameBytes, List.append_assoc] at hbuf
  have hselected := exec_selectParse_of_header hscan (headHeader_of_headerBytes hbuf)
  rw [len_ofNat_toNat hlen, scanHeader, if_neg (Nat.not_lt.2 hfits), if_neg hfull,
    dispatchFrame_of_buf hbuf] at hselected
  exact scanLoop_succ hreq hselected n

/-- No window that starts at a byte of `g`, with `rest` buffered behind it, decodes to a header. -/
def NoHeaderStartsIn (g rest : List Byte) : Prop :=
  ∀ j b0 b1 b2 b3 tail, j < g.length → (g ++ rest).drop j = b0 :: b1 :: b2 :: b3 :: tail →
    decodeHeader b0 b1 b2 b3 = none

theorem NoHeaderStartsIn.of_cons {x : Byte} {g rest : List Byte} (h : NoHeaderStartsIn (x :: g) rest) :
    NoHeaderStartsIn g rest :=
  fun j b0 b1 b2 b3 tail hj => h (j + 1) b0 b1 b2 b3 tail (Nat.succ_lt_succ hj)

/-- A byte of garbage at the scan head is no header's first byte. -/
theorem NoHeaderStartsIn.headHeader {x : Byte} {g rest : List Byte} (h : NoHeaderStartsIn (x :: g) rest)
    (hbuf : s.buf = x :: g ++ rest) : s.headHeader = none := by
  unfold State.headHeader
  split
  · next b0 b1 b2 b3 tail hwindow =>
    exact h 0 b0 b1 b2 b3 tail (Nat.zero_lt_succ _) (hbuf.symm.trans hwindow)
  · rfl

/-- Before the timeout the loop slides over garbage, one operation for each byte (R72), as long as what is
buffered behind it completes every window that starts in it. -/
theorem scanLoop_of_garbage {g rest : List Byte} (hscan : s.Parsing) (hintime : ¬ s.TimeoutExpired)
    (hgarbage : NoHeaderStartsIn g rest) (hrest : 3 ≤ rest.length) (hbuf : s.buf = g ++ rest) (n : Nat) :
    scanLoop (n + g.length) s = scanLoop n (s.setBuf rest) := by
  induction g generalizing s with
  | nil =>
    subst hbuf
    rfl
  | cons x g ih =>
    have ⟨_, _, hreq⟩ := hscan
    have hwindow : 4 ≤ s.buf.length := by
      rw [hbuf, List.length_append, List.length_cons]
      omega
    have hslide : exec (selectParse s) s = .next (s.setBuf (g ++ rest)) := by
      rw [exec_selectParse_of_failure hscan hwindow (hgarbage.headHeader hbuf), scanFailure,
        if_neg hintime, slideByte, hbuf]
      rfl
    calc scanLoop (n + (g.length + 1)) s
      _ = scanLoop (n + g.length) (s.setBuf (g ++ rest)) := scanLoop_succ hreq hslide _
      _ = scanLoop n (s.setBuf rest) := ih (s := s.setBuf (g ++ rest)) hscan hintime hgarbage.of_cons rfl

/-- With nothing buffered the loop stops (R71). -/
theorem scanLoop_of_empty (hscan : s.Parsing) (hbuf : s.buf = []) (n : Nat) :
    scanLoop (n + 1) s = .next (s.setScanReq false) := by
  have ⟨_, _, hreq⟩ := hscan
  have hshort : s.buf.length < 4 := by simp [hbuf]
  have hselected : selectParse s = .parseIdle := if_pos hshort
  have hidle : exec (selectParse s) s = .next (s.setScanReq false) := by
    rw [hselected]
    exact (ScanEffect.idle hshort).exec_eq hscan
  exact (scanLoop_succ hreq hidle n).trans (scanLoop_of_stopped (s.setScanReq_scanReq false) n)

/-! ### Two frames in one chunk (R91) -/

/-- The loop over two frames around the garbage `g` takes one operation for each frame, one for each byte of
`g`, and one to stop. -/
theorem scanLoop_of_two_frames {k k' : SubStream} {p g p' : List Byte} (hscan : s.Parsing)
    (hlen : p.length ≤ 0x7FFF) (hfits : 4 + p.length ≤ s.cfg.maxFrame)
    (hlen' : p'.length ≤ 0x7FFF) (hfits' : 4 + p'.length ≤ s.cfg.maxFrame)
    (hgarbage : NoHeaderStartsIn g (frameBytes k' p'))
    (hbuf : s.buf = frameBytes k p ++ (g ++ frameBytes k' p')) (n : Nat) :
    scanLoop (n + 1 + 1 + g.length + 1) s =
      .next ((delivered (delivered s k p (frameBytes k' p')) k' p' []).setScanReq false) := by
  have hrest : 3 ≤ (frameBytes k' p').length := by
    rw [frameBytes_length]
    omega
  have hscan' : (delivered s k p (frameBytes k' p')).Parsing := delivered_parsing hscan
  have hfits'' : 4 + p'.length ≤ (delivered s k p (frameBytes k' p')).cfg.maxFrame := by
    simpa [delivered] using hfits'
  calc scanLoop (n + 1 + 1 + g.length + 1) s
    _ = scanLoop (n + 1 + 1 + g.length) (delivered s k p (g ++ frameBytes k' p')) :=
      scanLoop_of_frame hscan hlen hfits hbuf _
    _ = scanLoop (n + 1 + 1) (delivered s k p (frameBytes k' p')) :=
      scanLoop_of_garbage (delivered_parsing hscan) delivered_not_timeoutExpired hgarbage hrest rfl _
    _ = scanLoop (n + 1) (delivered (delivered s k p (frameBytes k' p')) k' p' []) :=
      scanLoop_of_frame hscan' hlen' hfits'' (List.append_nil _).symm _
    _ = .next ((delivered (delivered s k p (frameBytes k' p')) k' p' []).setScanReq false) :=
      scanLoop_of_empty (delivered_parsing hscan') rfl n

/-- Settles O45: the chunk is accepted, and its length is more operations than the loop takes over it. -/
theorem twoFramesAroundGarbageDispatchTwice : Obligations.TwoFramesAroundGarbageDispatchTwice := by
  intro s k k' p g p' c hlive hframed hidle hempty hlen hfits hlen' hfits' hc hroom hgarbage
  change c = frameBytes k p ++ g ++ frameBytes k' p' at hc
  have hcount : c.length = 5 + p.length + p'.length + 1 + 1 + g.length + 1 := by
    simp only [hc, List.length_append, frameBytes_length]
    omega
  have haccept : exec (.rxChunk c) s = .next ((s.setBuf (s.buf ++ c)).setScanReq true) :=
    perform_of_guard hlive ⟨hframed, hidle, by omega, by rwa [hempty]⟩
  have hbuf : s.buf ++ c = frameBytes k p ++ (g ++ frameBytes k' p') := by
    rw [hempty, hc, List.nil_append, List.append_assoc]
  have hloop := scanLoop_of_two_frames (s := (s.setBuf (s.buf ++ c)).setScanReq true)
    ⟨hlive, hframed, rfl⟩ hlen hfits hlen' hfits' hgarbage hbuf (5 + p.length + p'.length)
  rw [← hcount] at hloop
  exact ⟨_, _, haccept, hloop, by simp [delivered, hframed]⟩

end Demultiplexer

end Sys2Proof.Machine

/-! PROOFS. The reframing agents and the arbiter of spec/43_reframing_arbiter.md: the acceptance of a
datagram (R94 to R98), the grant and the writer (R100 to R102), and the order of the sequences on the
serial output (R103). -/

namespace Sys2Proof.Machine

/-! ### The acceptance of a datagram (R94 to R98) -/

section Acceptance

variable {s t : State} {k : SubStream} {d : List Byte}

/-- All DG_FRAMED can do (R96). -/
theorem exec_dgFramed_eq_next_iff :
    exec (.dgFramed k d) s = .next t ↔ s.PortFree k ∧ d.length ≤ s.cfg.maxPayload ∧ s.Frames k ∧
      ∃ h, encodeHeader s.cfg k d.length = some h ∧ t = s.setPending k (some (h ++ d)) := by
  change execDgFramed k d s = _ ↔ _
  unfold execDgFramed
  split
  · next h hh =>
    rw [perform_eq_next_iff]
    constructor
    · rintro ⟨-, ⟨hfree, hfits, hframes⟩, rfl⟩
      exact ⟨hfree, hfits, hframes, h, hh, rfl⟩
    · rintro ⟨hfree, hfits, hframes, h', hh', rfl⟩
      cases hh.symm.trans hh'
      exact ⟨hfree.1, ⟨hfree, hfits, hframes⟩, rfl⟩
  · next hh => simp [perform_false_ne_next, hh]

/-- For an acceptance operation, with its guard written out: the free port that each asks for (R93) and a
test `g` of its own. -/
theorem exec_ne_next_of_not_accepted {i : Instr} {g : Prop} (hguard : Guard s i → s.PortFree k ∧ g)
    (hno : ¬ (s.halted = false ∧ s.pending k = none ∧ s.lock ≠ some k ∧ g)) (t : State) :
    exec i s ≠ .next t :=
  exec_ne_next_of_not_guard (fun h =>
    have ⟨⟨hlive, hempty, hlock⟩, hg⟩ := hguard h
    hno ⟨hlive, hempty, hlock, hg⟩) t

/-- Settles O24: DG_DROP_OVERSIZE tests its guard first. -/
theorem oversizedDatagramIsDroppedAndReported : Obligations.OversizedDatagramIsDroppedAndReported :=
  fun _ _ _ => ⟨fun ⟨hlive, hempty, hlock, hover⟩ =>
    perform_of_guard hlive ⟨⟨hlive, hempty, hlock⟩, hover⟩, exec_ne_next_of_not_accepted id⟩

/-- Settles O25: DG_DROP_INVALID tests its guard first, and under R8 every payload that fits has a header. -/
theorem invalidLengthIsDroppedAndReported : Obligations.InvalidLengthIsDroppedAndReported := by
  refine fun s k d => ⟨fun ⟨hlive, hempty, hlock, hguard⟩ => ?_, exec_ne_next_of_not_accepted id,
    fun hv => ?_⟩
  · exact perform_of_guard hlive ⟨⟨hlive, hempty, hlock⟩, hguard⟩
  · exact exec_ne_next_of_not_guard fun ⟨_, hfits, _, hnone⟩ =>
      encodeHeader_ne_none_of_valid hv k hfits hnone

/-- Settles O26: on either port, DG_FRAMED stores the header that ENCODE gives and the datagram. -/
theorem framedDatagramIsHeaderThenData : Obligations.FramedDatagramIsHeaderThenData := by
  refine fun s k d => ⟨fun h hlive hempty hlock hfits hframes hheader => ?_,
    exec_ne_next_of_not_accepted id⟩
  have hexec : exec (.dgFramed k d) s = .next (s.setPending k (some (h ++ d))) :=
    exec_dgFramed_eq_next_iff.2 ⟨⟨hlive, hempty, hlock⟩, hfits, hframes, h, hheader, rfl⟩
  constructor
  · rintro rfl
    exact hexec
  · rintro rfl
    exact hexec

/-- Settles O27: DG_RAW tests its guard first, and stores only a datagram that has a byte. -/
theorem rawDatagramCarriesNoHeader : Obligations.RawDatagramCarriesNoHeader := by
  refine fun s d => ⟨fun ⟨hlive, hempty, hlock, hguard⟩ => ?_, exec_ne_next_of_not_accepted id⟩
  have hexec : exec (.dgRaw d) s = .next (if 0 < d.length then s.setPending .primary (some d) else s) :=
    perform_of_guard hlive ⟨⟨hlive, hempty, hlock⟩, hguard⟩
  constructor
  · intro hd
    rwa [if_pos (List.length_pos_of_ne_nil hd)] at hexec
  · rintro rfl
    exact hexec

/-- The acceptance operations of port `k` for the datagram `d`; DG_RAW is one of port 0 only (R97). -/
def Accepts (k : SubStream) (d : List Byte) (i : Instr) : Prop :=
  i = .dgDropOversize k d ∨ (k = .primary ∧ i = .dgRaw d) ∨ i = .dgDropInvalid k d ∨ i = .dgFramed k d

/-- A port that frames its datagrams is not the primary one in Passthrough. -/
theorem State.Frames.not_raw (hframes : s.Frames k) : ¬ (k = .primary ∧ s.linkState = .passthrough) := by
  rintro ⟨rfl, hpass⟩
  obtain ⟨⟨⟩⟩ | hframed := hframes
  cases hframed.symm.trans hpass

/-- An acceptance operation that is enabled is the one the table of R98 names. -/
theorem eq_selectDatagram_of_guard {i : Instr} (hi : Accepts k d i) (hguard : Guard s i) :
    i = selectDatagram k d s := by
  unfold selectDatagram
  obtain rfl | ⟨rfl, rfl⟩ | rfl | rfl := hi
  · obtain ⟨-, hover⟩ := hguard
    rw [if_pos hover]
  · obtain ⟨-, hpass, hfits⟩ := hguard
    rw [if_neg (Nat.not_lt.2 hfits), if_pos ⟨rfl, hpass⟩]
  · obtain ⟨-, hfits, hframes, hnone⟩ := hguard
    rw [if_neg (Nat.not_lt.2 hfits), if_neg hframes.not_raw, if_pos hnone]
  · obtain ⟨-, hfits, hframes, hsome⟩ := hguard
    rw [if_neg (Nat.not_lt.2 hfits), if_neg hframes.not_raw, if_neg hsome]

/-- Settles O28: the operation the table names is enabled on a free port, and no other is. -/
theorem datagramSelectsExactlyOneOperation : Obligations.DatagramSelectsExactlyOneOperation := by
  intro s k d i hlive hempty hlock hi
  have hselected : (∃ t, exec i s = .next t) ↔ i = selectDatagram k d s := by
    rw [exec_enabled_iff]
    refine ⟨eq_selectDatagram_of_guard hi, ?_⟩
    rintro rfl
    exact selectDatagram_guard ⟨hlive, hempty, hlock⟩ d
  simpa only [selectDatagram, apply_ite (i = ·)] using hselected

end Acceptance

/-! ### The grant and the writer (R100 to R102) -/

section Writer

variable {s t : State}

/-- All ACQUIRE can do (R100). -/
theorem exec_acquire_eq_next_iff {k : SubStream} :
    exec (.acquire k) s = .next t ↔ s.halted = false ∧ s.lock = none ∧
      ∃ q, s.pending k = some q ∧ t = ((s.setLock (some k)).setWrRem q).setPending k none := by
  change execAcquire k s = _ ↔ _
  unfold execAcquire
  split
  · next q hq => simp [perform_eq_next_iff, hq]
  · next hq => simp [perform_false_ne_next, hq]

/-- All TX_BYTE can do (R101). -/
theorem exec_txByte_eq_next_iff :
    exec .txByte s = .next t ↔ s.halted = false ∧ s.lock ≠ none ∧ ∃ b rest, s.wrRem = b :: rest ∧
      t = ((s.serOut b).setWrRem rest).setLock (lockAfter s.lock rest) := by
  change execTxByte s = _ ↔ _
  unfold execTxByte
  split
  · next b rest hrem => simp [perform_eq_next_iff, hrem]
  · next hrem => simp [perform_false_ne_next, hrem]

/-- A byte that is not the last keeps the lock (R102). -/
theorem lockAfter_of_ne_nil {rest : List Byte} (hrest : rest ≠ []) (lock : Option SubStream) :
    lockAfter lock rest = lock := if_neg hrest

/-- A held lock is free after a byte exactly where that byte was the last one (R101, R102). -/
theorem lockAfter_eq_none_iff {lock : Option SubStream} (hlock : lock ≠ none) (rest : List Byte) :
    lockAfter lock rest = none ↔ rest = [] := by
  rw [lockAfter, ite_eq_left_iff]
  exact ⟨fun h => by_contra fun hrest => hlock (h hrest), fun hrest hne => absurd hrest hne⟩

/-- Settles O29: the effect of ACQUIRE on each port. -/
theorem acquireGrantsTheSequence : Obligations.AcquireGrantsTheSequence := by
  refine fun s => ⟨fun q hlive hfree => ⟨fun hq => ?_, fun hq => ?_⟩,
    fun k => exec_ne_next_of_not_guard (s := s) (i := .acquire k)⟩
  · exact exec_acquire_eq_next_iff.2 ⟨hlive, hfree, q, hq, rfl⟩
  · exact exec_acquire_eq_next_iff.2 ⟨hlive, hfree, q, hq, rfl⟩

/-- Settles O30: the effect of TX_BYTE, on the last byte and on any other. -/
theorem txByteWritesTheNextByte : Obligations.TxByteWritesTheNextByte := by
  refine fun s => ⟨fun b rest hlive hlock hrem => ?_,
    exec_ne_next_of_not_guard (s := s) (i := .txByte)⟩
  have hexec := exec_txByte_eq_next_iff.2 ⟨hlive, hlock, b, rest, hrem, rfl⟩
  constructor
  · rintro rfl
    exact hexec
  · intro hrest
    rwa [lockAfter_of_ne_nil hrest] at hexec

theorem runOps_cons_of_next {i : Instr} (h : exec i s = .next t) (is : List Instr) :
    runOps (i :: is) s = runOps is t := by
  rw [runOps, h]

/-- The writer, once per byte, writes what the owner of the lock has left and then frees the lock. -/
theorem runOps_replicate_txByte {q : List Byte} (hlive : s.halted = false) (hlock : s.lock ≠ none)
    (hrem : s.wrRem = q) (hne : q ≠ []) :
    runOps (List.replicate q.length .txByte) s =
      .next { s with serHist := s.serHist ++ q, lock := none, wrRem := [] } := by
  induction q generalizing s with
  | nil => exact absurd rfl hne
  | cons b rest ih =>
    have hfirst := exec_txByte_eq_next_iff.2 ⟨hlive, hlock, b, rest, hrem, rfl⟩
    rw [List.length_cons, List.replicate_succ, runOps_cons_of_next hfirst]
    by_cases hlast : rest = []
    · subst hlast
      rfl
    · rw [lockAfter_of_ne_nil hlast, ih (by simpa) (by simpa) (by simp) hlast]
      simp [State.setLock, State.setWrRem, State.serOut]

/-- Settles O31: after the grant the writer has exactly the sequence to write. -/
theorem grantedSequenceIsWrittenWhole : Obligations.GrantedSequenceIsWrittenWhole := by
  intro s k q hlive hfree hq hne
  rw [runOps_cons_of_next (exec_acquire_eq_next_iff.2 ⟨hlive, hfree, q, hq, rfl⟩),
    runOps_replicate_txByte (by simpa) (by simp) (by simp) hne]
  cases k with
  | primary => rfl
  | secondary => rfl

end Writer

/-! ### The sequences on the serial output (R103) -/

section SerialOutput

variable {s t : State} {i : Instr}

theorem latch_serHist (s : State) : (latch s).serHist = s.serHist := by
  unfold latch flush
  split <;> simp

theorem InboundEffect.serHist (h : InboundEffect s t) : t.serHist = s.serHist := by
  cases h with
  | latch => exact latch_serHist s
  | slide => rfl
  | reject => rfl
  | await => rfl
  | dispatch => simp [dispatchFrame]
  | _ => simp

theorem OutboundEffect.serHist {k : SubStream} (h : OutboundEffect s k t) : t.serHist = s.serHist := by
  cases h with
  | _ => simp

/-- The writer alone writes on the serial output (R101). -/
theorem exec_serHist_of_ne_txByte (htx : i ≠ .txByte) (h : exec i s = .next t) :
    t.serHist = s.serHist := by
  cases exec_effect h with
  | write => exact absurd rfl htx
  | inbound _ he => exact he.serHist
  | outbound _ he => exact he.serHist
  | _ => simp

theorem grantedBy_of_ne_acquire (hacquire : ∀ k, i ≠ .acquire k) : grantedBy s i = [] := by
  cases i with
  | acquire k => exact absurd rfl (hacquire k)
  | _ => rfl

theorem grantedBytes_cons_of_next (h : exec i s = .next t) (is : List Instr) :
    grantedBytes (i :: is) s = grantedBy s i ++ grantedBytes is t := by
  rw [grantedBytes, h]

/-- What is written on the serial output and what the owner of the lock has still to write. -/
def State.serialLine (s : State) : List Byte := s.serHist ++ s.wrRem

/-- A free lock has nothing left to write: the half of R31(c) that non-interleaving needs. -/
def State.LineIdle (s : State) : Prop := s.lock = none → s.wrRem = []

/-- Every operation but RESET keeps the serial line in order: it adds the sequence it grants, if any, at its
end, and grants only where the line has nothing left to write (R100, R103). -/
theorem exec_serialLine (hreset : i ≠ .reset) (hidle : s.LineIdle) (h : exec i s = .next t) :
    t.serialLine = s.serialLine ++ grantedBy s i ∧ t.LineIdle := by
  by_cases hacquire : ∃ k, i = .acquire k
  · obtain ⟨k, rfl⟩ := hacquire
    obtain ⟨-, hfree, q, hq, rfl⟩ := exec_acquire_eq_next_iff.1 h
    simp [State.serialLine, State.LineIdle, grantedBy, hq, hidle hfree]
  rw [grantedBy_of_ne_acquire (not_exists.1 hacquire), List.append_nil]
  by_cases htx : i = .txByte
  · subst htx
    obtain ⟨-, hlock, b, rest, hrem, rfl⟩ := exec_txByte_eq_next_iff.1 h
    exact ⟨by simp [State.serialLine, hrem], (lockAfter_eq_none_iff hlock rest).1⟩
  · obtain ⟨-, -, -, hwriter, -⟩ := eachElementHasItsWriters i s t h hreset
    have hkept : ¬ (t.lock ≠ s.lock ∨ t.wrRem ≠ s.wrRem) := fun hne =>
      (hwriter hne).elim hacquire htx
    obtain ⟨hlock, hrem⟩ : t.lock = s.lock ∧ t.wrRem = s.wrRem := by simpa using hkept
    exact ⟨by rw [State.serialLine, exec_serHist_of_ne_txByte htx h, hrem, State.serialLine],
      by rwa [State.LineIdle, hlock, hrem]⟩

/-- So a run without a RESET adds the sequences it grants, in the order of its ACQUIREs. -/
theorem runOps_serialLine {ops : List Instr} (hreset : .reset ∉ ops) (hidle : s.LineIdle)
    (h : runOps ops s = .next t) : t.serialLine = s.serialLine ++ grantedBytes ops s ∧ t.LineIdle := by
  induction ops generalizing s with
  | nil =>
    cases h
    exact ⟨(List.append_nil _).symm, hidle⟩
  | cons i is ih =>
    rw [List.mem_cons, not_or] at hreset
    obtain ⟨hi, his⟩ := hreset
    obtain ⟨u, hu, hrest⟩ := runOps_cons_eq_next h
    obtain ⟨hline, hidle'⟩ := exec_serialLine (Ne.symm hi) hidle hu
    obtain ⟨hlater, hend⟩ := ih his hidle' hrest
    refine ⟨?_, hend⟩
    rw [hlater, hline, grantedBytes_cons_of_next hu, List.append_assoc]

/-- Settles O32, by the serial line of the run. -/
theorem serialOutputIsTheGrantedSequencesInOrder :
    Obligations.SerialOutputIsTheGrantedSequencesInOrder := by
  intro ops s t hreset hidle h
  obtain ⟨hline, hend⟩ := runOps_serialLine hreset hidle h
  exact ⟨hline.symm, hend⟩

end SerialOutput

end Sys2Proof.Machine

/-! PROOFS. The errors and the halt of spec/60_exceptions.md: the codes of the error events (R111), what each
operation reports (R108), the link fault and the halted block (R115, R116), and the events of one clock cycle
(R114). -/

namespace Sys2Proof.Machine

/-- Settles O58: the codes and the ports are read off the table. -/
theorem errorCodesAreThoseOfTheTable : Obligations.ErrorCodesAreThoseOfTheTable :=
  ⟨rfl, rfl, rfl, rfl, rfl, rfl, rfl, rfl⟩

/-! ### What each operation reports (R108, R109, R111) -/

section Errors

variable {s t : State}

theorem latch_errHist (s : State) : (latch s).errHist = s.errHist := by
  unfold latch flush
  split <;> simp

/-- NotAFrame is never reported: the window slides or the link latches (R109). -/
theorem scanFailure_errHist (s : State) : (scanFailure s).errHist = s.errHist := by
  obtain ⟨-, heq⟩ | ⟨-, heq⟩ := scanFailure_cases s
  · rw [heq, latch_errHist]
  · rw [heq, slideByte, State.setBuf_errHist]

/-- An iteration on a header reports exactly the one it rejects (R75). -/
theorem scanHeader_errHist (s : State) (k : SubStream) (n : Nat) :
    (scanHeader s k n).errHist =
      s.errHist ++ if s.cfg.maxFrame < 4 + n then [⟨.frameTooLarge, none⟩] else [] := by
  obtain ⟨hbig, heq⟩ | ⟨hfits, -, heq⟩ | ⟨hfits, -, heq⟩ := scanHeader_cases s k n
  · rw [heq, if_pos hbig]
    rfl
  · rw [heq, if_neg (Nat.not_lt.2 hfits), List.append_nil]
    rfl
  · rw [heq, if_neg (Nat.not_lt.2 hfits), List.append_nil]
    simp [dispatchFrame]

/-- Of the scan loop's operations PARSE_TOO_LARGE alone reports. -/
theorem ScanEffect.errHist {i : Instr} (h : ScanEffect s i t) :
    t.errHist = s.errHist ++ reportedBy s i := by
  cases h with
  | idle => simp [reportedBy]
  | slide => simp [reportedBy, slideByte]
  | latch => simp [reportedBy, latch_errHist]
  | reject => simp [reportedBy, rejectHeader]
  | await => simp [reportedBy, awaitPayload]
  | dispatch => simp [reportedBy, dispatchFrame]

/-- A guarded operation reports what its effect reports. -/
theorem perform_errHist {n : String} {g : Prop} [Decidable g] {u : State} {es : List ErrorEvent}
    (h : perform n s g u = .next t) (hu : u.errHist = s.errHist ++ es) :
    t.errHist = s.errHist ++ es := by
  obtain ⟨-, -, rfl⟩ := perform_eq_next_iff.1 h
  exact hu

/-- A guarded operation whose effect leaves `err_hist` reports nothing. -/
theorem perform_errHist_nil {n : String} {g : Prop} [Decidable g] {u : State}
    (h : perform n s g u = .next t) (hu : u.errHist = s.errHist) : t.errHist = s.errHist ++ [] :=
  perform_errHist h (hu.trans (List.append_nil _).symm)

/-- Settles O43: each operation's effect appends to `err_hist` what its rule reports. -/
theorem operationsReportExactlyTheirErrors : Obligations.OperationsReportExactlyTheirErrors := by
  intro i s t h
  cases i with
  | hdrPrimary len => exact perform_errHist h (scanHeader_errHist s _ _)
  | hdrSecondary len => exact perform_errHist h (scanHeader_errHist s _ _)
  | nafMagic b0 b1 b2 b3 => exact perform_errHist_nil h (scanFailure_errHist s)
  | nafChecksum b1 b2 b3 => exact perform_errHist_nil h (scanFailure_errHist s)
  | checksum | encode | decode =>
    cases exec_effect h with
    | codec v => simp [reportedBy]
    | inbound hi => exact hi.elim
    | outbound hi => exact hi.elim
  | parseIdle | parseSlide | parseLatch | parseTooLarge | parseWait | parseDispatch =>
    obtain ⟨-, he⟩ := (exec_scanOperation_eq_next_iff (by decide)).1 h
    exact he.errHist
  | rxChunk c => exact perform_errHist_nil h rfl
  | rawForward c => exact perform_errHist_nil h rfl
  | tick => exact perform_errHist_nil h rfl
  | dgDropOversize k d => exact perform_errHist h rfl
  | dgDropInvalid k d => exact perform_errHist h rfl
  | dgFramed k d =>
    obtain ⟨-, -, -, hd, -, rfl⟩ := exec_dgFramed_eq_next_iff.1 h
    simp [reportedBy]
  | dgRaw d => exact perform_errHist_nil h (by simp [apply_ite State.errHist])
  | acquire k =>
    obtain ⟨-, -, q, -, rfl⟩ := exec_acquire_eq_next_iff.1 h
    simp [reportedBy]
  | txByte =>
    obtain ⟨-, -, b, rest, -, rfl⟩ := exec_txByte_eq_next_iff.1 h
    simp [reportedBy]
  | linkFault => exact perform_errHist h rfl
  | reset =>
    cases h
    simp [reportedBy]

end Errors

/-! ### The link fault and the halted block (R115, R116) -/

section Halted

variable {s : State}

theorem exec_linkFault_of_live (hlive : s.halted = false) :
    exec .linkFault s = .next { s with errHist := s.errHist ++ [⟨.linkIoError, none⟩], halted := true } :=
  perform_of_guard hlive trivial

/-- Every operation but RESET and the codec functions asks in its guard for a live block. -/
theorem live_of_guard {i : Instr} (hguard : Guard s i) :
    s.halted = false ∨ i = .reset ∨ (∃ b0 b1 b2, i = .checksum b0 b1 b2) ∨ (∃ k n, i = .encode k n) ∨
      ∃ b0 b1 b2 b3, i = .decode b0 b1 b2 b3 := by
  cases i with
  | checksum b0 b1 b2 => exact .inr (.inr (.inl ⟨b0, b1, b2, rfl⟩))
  | encode k n => exact .inr (.inr (.inr (.inl ⟨k, n, rfl⟩)))
  | decode b0 b1 b2 b3 => exact .inr (.inr (.inr (.inr ⟨b0, b1, b2, b3, rfl⟩)))
  | reset => exact .inr (.inl rfl)
  | tick | linkFault => exact .inl hguard
  | rxChunk | rawForward | acquire | txByte =>
    obtain ⟨hlive, -⟩ := hguard
    exact .inl hlive
  | _ =>
    obtain ⟨⟨hlive, -⟩, -⟩ := hguard
    exact .inl hlive

/-- Settles O33: the guard of LINK_FAULT is that the block is live. -/
theorem linkFaultReportsAndHalts : Obligations.LinkFaultReportsAndHalts :=
  fun _ => ⟨exec_linkFault_of_live, fun hhalted => exec_ne_next_of_not_guard (by simp [Guard, hhalted])⟩

theorem serRxReady_of_halted (hhalted : s.halted = true) : s.serRxReady = false := by
  rw [← Bool.not_eq_true, serRxReady_iff]
  simp [hhalted]

theorem dgInReady_of_halted (hhalted : s.halted = true) (k : SubStream) : s.dgInReady k = false := by
  rw [← Bool.not_eq_true, dgInReady_iff]
  simp [hhalted]

/-- A halted block with no RESET to come has stopped (R116; log 4). -/
theorem step_of_halted (hv : s.cfg.Valid) (hhalted : s.halted = true)
    (hnone : resetFollows s.agenda = false) : step s = .fault .linkIoError :=
  (if_pos hv).trans (if_pos ⟨hhalted, hnone⟩)

/-- Settles O34: no guard but those of RESET and the codec holds, and readiness asks for a live block. -/
theorem haltedStopsTheBlock : Obligations.HaltedStopsTheBlock := by
  intro s hhalted
  refine ⟨fun i hreset hchecksum hencode hdecode => exec_ne_next_of_not_guard fun hguard => ?_,
    fun rst => ?_, fun hv => step_of_halted hv hhalted⟩
  · obtain hlive | rfl | ⟨b0, b1, b2, rfl⟩ | ⟨k, n, rfl⟩ | ⟨b0, b1, b2, b3, rfl⟩ := live_of_guard hguard
    · simp [hhalted] at hlive
    · exact hreset rfl
    · exact hchecksum b0 b1 b2 rfl
    · exact hencode k n rfl
    · exact hdecode b0 b1 b2 b3 rfl
  · have ⟨_, hstatus⟩ := outputs_status s rst
    refine ⟨hstatus.2 hhalted, ?_⟩
    simp [State.outputs, hhalted, serRxReady_of_halted, dgInReady_of_halted]

end Halted

/-! ### The events of one clock cycle (R114, R126) -/

section Cycle

variable {s : State} {e : Event} {es cycle : List Event} {later : List (List Event)}

/-- The first reset of a cycle cancels every other event (R126; log 12). -/
theorem cycleOrder_of_reset {pre post : List Event} (he : e.isReset = true)
    (hfirst : ∀ x ∈ pre, x.isReset = false) : cycleOrder (pre ++ e :: post) = [e] := by
  have hfind : (pre ++ e :: post).find? Event.isReset = some e :=
    List.find?_eq_some_iff_append.2 ⟨he, pre, post, rfl, fun x hx => by simp [hfirst x hx]⟩
  rw [cycleOrder, hfind]

theorem isLinkFault_iff : e.isLinkFault = true ↔ e = .operation .linkFault := by
  unfold Event.isLinkFault
  split <;> simp_all

theorem find?_isReset_eq_none_iff :
    cycle.find? Event.isReset = none ↔ ∀ x ∈ cycle, x.isReset = false := by
  simp only [List.find?_eq_none, Bool.not_eq_true]

/-- Without a reset, a link fault cancels every other event (R114). -/
theorem cycleOrder_of_linkFault (hreset : ∀ x ∈ cycle, x.isReset = false)
    (hfault : .operation .linkFault ∈ cycle) : cycleOrder cycle = [.operation .linkFault] := by
  obtain ⟨e, he⟩ : ∃ e, cycle.find? Event.isLinkFault = some e :=
    Option.isSome_iff_exists.1 (List.find?_isSome.2 ⟨_, hfault, rfl⟩)
  rw [cycleOrder, find?_isReset_eq_none_iff.2 hreset, he, isLinkFault_iff.1 (List.find?_some he)]

/-- Without either, the events stand as they are listed (log 15). -/
theorem cycleOrder_of_neither (hreset : ∀ x ∈ cycle, x.isReset = false)
    (hfault : .operation .linkFault ∉ cycle) : cycleOrder cycle = cycle := by
  have hnone : cycle.find? Event.isLinkFault = none :=
    List.find?_eq_none.2 fun x hx hx' => hfault (isLinkFault_iff.1 hx' ▸ hx)
  rw [cycleOrder, find?_isReset_eq_none_iff.2 hreset, hnone]

/-- A step serves the first event that takes effect, and leaves the others of its cycle in the agenda. -/
theorem step_of_cycleOrder (hv : s.cfg.Valid) (hrun : s.halted = false ∨ resetFollows s.agenda = true)
    (ha : s.agenda = cycle :: later) (horder : cycleOrder cycle = e :: es) :
    step s = serve e (s.setAgenda (agendaAfter es later)) := by
  rw [step, advance_of_runnable hv hrun ha, horder]

/-- A cycle cut to a reset steps as that reset alone in its cycle, in a halted block too (R116, R126). -/
theorem step_of_reset_first {pre post : List Event} (hv : s.cfg.Valid)
    (ha : s.agenda = (pre ++ e :: post) :: later) (he : e.isReset = true)
    (hfirst : ∀ x ∈ pre, x.isReset = false) :
    step s = step (s.setAgenda ([e] :: later)) := by
  have hcomes : resetFollows s.agenda = true := by simp [ha, resetFollows_cons, he]
  have halone : step (s.setAgenda ([e] :: later)) = serve e (s.setAgenda later) :=
    step_of_resetEvent hv he rfl
  rw [halone, step_of_cycleOrder hv (.inr hcomes) ha (cycleOrder_of_reset he hfirst)]
  rfl

/-- Settles O53, by the order of each cycle: a reset alone in its cycle is that of O50, or of O55 with a
driven timeout. -/
theorem cycleOrderIsResetThenFaultThenRest : Obligations.CycleOrderIsResetThenFaultThenRest := by
  intro s cycle later hv ha
  refine ⟨?_, fun hreset => ⟨fun hlive hfault => ?_, fun hrun hfault e es hcycle => ?_⟩⟩
  · rintro pre e post rfl he hfirst
    rw [step_of_reset_first hv ha he hfirst]
    have ⟨_, hplain⟩ := stepTakesOrLapsesANamedOperation
    have hdriven (v : Nat) (hev : e = .resetWith v) :=
      (timeoutChangesOnlyInReset (s.setAgenda ([e] :: later)) later v hv).2 (hev ▸ rfl)
    exact ⟨fun hev => (hplain (s.setAgenda ([e] :: later)) later hv (hev ▸ rfl)).1,
      fun v hev hfits => ((hdriven v hev).1 hfits).1, fun v hev => (hdriven v hev).2⟩
  · rw [step_of_cycleOrder hv (.inl hlive) ha (cycleOrder_of_linkFault hreset hfault)]
    exact attempt_of_next (exec_linkFault_of_live (s := s.setAgenda later) hlive)
  · have hwaits : s.halted = false ∨ resetFollows s.agenda = true :=
      hrun.imp_right fun h => by simp [ha, resetFollows_cons, h]
    exact step_of_cycleOrder hv hwaits ha ((cycleOrder_of_neither hreset hfault).trans hcycle)

end Cycle

end Sys2Proof.Machine

/-! PROOFS. RESET, of spec/70_reset_and_hazards.md (R125). -/

namespace Sys2Proof.Machine

/-- RESET has no guard: it clears the state of a halted block too (R125). -/
theorem exec_reset (s : State) : exec .reset s = .next s.clear := rfl

/-- Settles O35: the state RESET answers is `s.clear`, which writes the nine elements of R15 and the
transfers in progress, and no other field. -/
theorem resetClearsEveryStateElement : Obligations.ResetClearsEveryStateElement :=
  fun s => ⟨s.clear, exec_reset s, rfl⟩

end Sys2Proof.Machine
